-- ==== Sys2Proof/Word.lean ====
section
/-! DEFINITION. The widths of the part's numbers (R3, R172 of the spec) and the ranges of its numbered places
(the table of capacities in 00_scope.md). Nothing here computes; arithmetic stands in Machine/Ops.lean. -/

namespace Sys2Proof

/-- One byte of a packet, a frame or a character. -/
abbrev Byte := BitVec 8

/-- A two-byte item of a packet: keys, the numbers of R3, TU and millisecond times (R172). -/
abbrev Half := BitVec 16

/-- A device-time value of TB (00_scope.md, Time and timers). -/
abbrev Time := BitVec 32

/-- An event counter: 32 bits, saturating (00_scope.md, Counters). -/
abbrev Counter := BitVec 32

/-- The use counter and the use stamps of the Route Table (R50). -/
abbrev Stamp := BitVec 48

/-- A field line 0 to 7. -/
abbrev LineNo := Fin 8

/-- A delivery queue 0 to 7. -/
abbrev QueueNo := Fin 8

/-- A slot of the Frame Pool. -/
abbrev SlotNo := Fin 128

/-- An index of the Route Table. -/
abbrev RouteNo := Fin 48

/-- A domain 0 to 15. -/
abbrev Domain := Fin 16

end Sys2Proof
end

