-- ==== Sys2Proof/Config.lean ====
section
/-! DEFINITION. What the part fixes (the table of capacities of 00_scope.md and the constants of R158) and the values
that the spec leaves open, held as constants with no body. -/

namespace Sys2Proof.Config

/-- Frame slots of FP (R32). -/
def slots : Nat := 128
/-- The host quota, which does not change (R35). -/
def hostQuota : Nat := 32
/-- A line's quota after a device reset (R35). -/
def defaultQuota : Nat := 16
/-- Entries of the Route Table (R46). -/
def routeEntries : Nat := 48
/-- Places of the Park List (R80). -/
def parkPlaces : Nat := 16
/-- Delivery queues (R94). -/
def queues : Nat := 8
/-- Frames a queue may have lent (R96). -/
def lentMax : Nat := 8
/-- Entries of a transmit queue (R112). -/
def txEntries : Nat := 16
/-- Places of the Report Queue (R161). -/
def reportPlaces : Nat := 32
/-- Request slots of HL (R151). -/
def requestSlots : Nat := 4
/-- Bytes the frame records of one FETCH reply may take (R99). -/
def fetchRecordBytes : Nat := 1018
/-- Microseconds in one TU (00_scope.md, Time and timers). -/
def microsPerTU : Nat := 100
/-- Microseconds in one millisecond. -/
def microsPerMs : Nat := 1000
/-- The gap timer of the host-link receiver (R148), in milliseconds. -/
def hostGapMs : Nat := 10
/-- The vendor code IDENTIFY returns (R158). -/
def vendorCode : Half := 0x5645
/-- The part code IDENTIFY returns (R158). -/
def partCode : Half := 0x4C38
/-- The revision IDENTIFY returns (R158). -/
def revision : Byte := 2
/-- The sync byte of a packet (R145). -/
def sync : Byte := 0xA7

/-- FREE VALUE (log 9). Whether LRXD is at mark at a moment when no command has told its level: R132 lets the receiver's
next state depend on it. The argument is the number of such readings made before. It has no body, so nothing can be
proved of it. -/
opaque freeMark : Nat → Bool

/-- FREE VALUE (log 16). Whether a break detected while a half-duplex line was sending holds the pre-quiet timer until it ends,
as the letter of R115 has it, or is handed to the timer neither at its detection nor at its end, as that of R131. It has no
body, so nothing can be proved of it. -/
opaque deafBreakCounts : Bool

end Sys2Proof.Config
end

