-- ==== Sys2Proof/Syntax.lean ====
section
/-! DEFINITION. The commands of the part: one constructor of `Instr` per row of spec/opcode_table.json. A request carries
its tag and the items of its payload in the widths of R172, unchecked, so that every value the host can send has a command.
An event carries the line, queue or source it happens at and what was sampled there. The expiry of a timer carries `after`,
the microseconds that pass before it is taken (R1, log 4). A request that a block owns carries its stage: HL accepting it, the
block taking it, or both in a row (R153, log 1). Where an operand has a default, that is the plain case: both happenings of a
request in a row, an expiry taken at this moment, the request itself of an OPEN or a STATS, HL's part of a session end, RU's
part of a loss, the end of a packet, an undamaged byte that follows mark. -/

namespace Sys2Proof

/-- An optional item of a payload as sent: its presence byte and the value, which a presence byte of 0 leaves out (R172). -/
structure OptItem (α : Type) where
  presence : Byte
  value : α
deriving DecidableEq, Repr

/-- The capture plan record as ARM carries it (R175), positions 2 to 15. -/
structure RawPlan where
  startForm : Byte
  quiet : OptItem Half
  lead : OptItem Byte
  trail : OptItem Byte
  gap : OptItem Half
  span : OptItem Half
  limit : Byte
  errorPolicy : Byte
  again : Byte
  keyOffset : Byte
  keyWidth : Byte
  shortPolicy : Byte
  overflow : Byte
  defaultQueue : Byte
deriving DecidableEq, Repr

/-- The line configuration record as LINE_SET carries it (R175), positions 2 to 8. -/
structure RawConfig where
  mode : Byte
  rate : Byte
  dataBits : Byte
  parity : Byte
  stopBits : Byte
  duplex : Byte
  domain : Byte
deriving DecidableEq, Repr

/-- The parameters of ROUTE_INSTALL (10_message_and_record_formats.md, section 10.3), positions 1 to 10. -/
structure RawRoute where
  index : Byte
  key : Half
  width : Byte
  scope : Byte
  action : Byte
  actionLine : Byte
  actionQueue : Byte
  rewrite : OptItem Half
  pinned : Byte
  state : Byte
deriving DecidableEq, Repr

/-- The parameters of ROUTE_REMOVE after its tag: form 0 by index, any other form byte with a key (R58, R174). -/
inductive RawRemove where
  | byIndex (index : Byte)
  | byKey (form : Byte) (key : Half) (width : Byte) (scope : Byte)
deriving DecidableEq, Repr

/-- The delivery numbers of RELEASE and RETURN: the count byte 0xFF for ALL, or a count and that many numbers (R172). -/
inductive RawNumbers where
  | all
  | listed (numbers : List Half)
deriving DecidableEq, Repr

/-- The levels of HRATE1 and HRATE0, true for high (R144). -/
structure Straps where
  hrate1 : Bool
  hrate0 : Bool
deriving DecidableEq, Repr

/-- Why a received packet is dropped, other than the gap timer (R148). -/
inductive BadPacket where
  | length
  | check
  | kind
deriving DecidableEq, Repr

/-- Which happenings of a request that a block owns a command stands for (R152, R153, log 1): HL's, in which it accepts the
request, validates it and hands it to its block; the block's, in which it takes what HL has handed it; or both in a row, as
far as nothing that HL handed that block before stands in the way. -/
inductive Stage where
  | whole
  | accept
  | block
deriving DecidableEq, Repr

/-- What happens at the outgoing list (R160, log 11): the last byte of the packet being sent leaves TXD, or the transmitter, at
rest, begins the first packet that waits, or HL takes a reply or a report that a block has handed to it. -/
inductive ListEvent where
  | sent
  | begins
  | joins
deriving DecidableEq, Repr

/-- A block that raises reports or hands losses to RU (the tables of 09_reports_and_counters.md and R167). -/
inductive Source where
  | cu (line : LineNo)
  | lp (line : LineNo)
  | re
  | qm
deriving DecidableEq, Repr

/-- Who takes an OPEN in one happening (R154): HL the request, then RU the session open and RE the OPEN that HL hands it. -/
inductive OpenTaker where
  | hl
  | ru
  | re
deriving DecidableEq, Repr

/-- Who takes a STATS in one happening (R170): HL and RU the request, by its stage, or a block the read that RU has handed it:
the Capture Unit and then the Line Port for LINE, QM for QUEUE, RE for ROUTES, FP for POOL. -/
inductive StatsTaker where
  | request (stage : Stage := .whole)
  | read
deriving DecidableEq, Repr

/-- Who takes a loss in one happening (R167): RU, or the Line Port of the line the loss names. -/
inductive LossTaker where
  | ru
  | lp (line : LineNo)
deriving DecidableEq, Repr

/-- Who takes a session end in one happening (R155): QM, a Line Port, RU, or HL once the last block has taken it. -/
inductive EndTaker where
  | qm
  | lp (line : LineNo)
  | ru
  | hl
deriving DecidableEq, Repr

/-- The commands, one per row of spec/opcode_table.json, in the table's order. -/
inductive Instr where
  /-- POWER_UP (R159): supply is first applied; the straps stand as given. -/
  | powerUp (straps : Straps)
  /-- RESET_PIN (R159): the RESET pin is held low and returns high; the straps stand as given. -/
  | resetPin (straps : Straps)
  /-- PACKET_DISCARDED (R148): a received packet with a bad length, check or kind is dropped. -/
  | packetDiscarded (why : BadPacket)
  /-- HOST_GAP_EXPIRY (R148): the receiver's gap timer expires. -/
  | hostGapExpiry (after : Nat := 0)
  /-- PACKET_SENT (R160): the last byte of the packet being sent leaves TXD; the straps stand as given, and are sampled
  only if this is the RESET reply (R144, R158). `event` lets it stand for the other happenings at the outgoing list. -/
  | packetSent (straps : Straps) (event : ListEvent := .sent)
  /-- OPEN (R154): the request, or RU or RE taking what HL has handed it for the OPEN with the tag. -/
  | openSession (tag : Byte) (taker : OpenTaker := .hl)
  /-- CLOSE (R156). -/
  | closeSession (tag : Byte)
  /-- SESSION_END (R155): a block takes the session end that a CLOSE or an OPEN has begun, or HL goes on with that request. -/
  | sessionEnd (taker : EndTaker := .hl)
  /-- CANCEL (R157) of the request with the tag `target`: HL hands it to QM or to a Line Port, or answers it itself. -/
  | cancel (tag : Byte) (target : Byte) (stage : Stage := .whole)
  /-- IDENTIFY (R158). -/
  | identify (tag : Byte)
  /-- RESET (R158). -/
  | resetRequest (tag : Byte)
  /-- ARM (R5 to R7). -/
  | arm (tag : Byte) (line : Byte) (plan : RawPlan) (stage : Stage := .whole)
  /-- DISARM (R25); `how` is the partial parameter, 0 KEEP and 1 DROP. -/
  | disarm (tag : Byte) (line : Byte) (how : Byte) (stage : Stage := .whole)
  /-- CAPTURE_GET (R30). -/
  | captureGet (tag : Byte) (line : Byte) (stage : Stage := .whole)
  /-- POOL_SET (R42). -/
  | poolSet (tag : Byte) (line : Byte) (quota : Byte) (stage : Stage := .whole)
  /-- POOL_GET (R43). -/
  | poolGet (tag : Byte) (stage : Stage := .whole)
  /-- ROUTE_INSTALL (R51 to R57). -/
  | routeInstall (tag : Byte) (route : RawRoute) (stage : Stage := .whole)
  /-- ROUTE_REMOVE (R58). -/
  | routeRemove (tag : Byte) (target : RawRemove) (stage : Stage := .whole)
  /-- ROUTE_STATE with operation SUSPEND (R60). -/
  | routeStateSuspend (tag : Byte) (index : Byte) (stage : Stage := .whole)
  /-- ROUTE_STATE with operation RESUME (R61). -/
  | routeStateResume (tag : Byte) (index : Byte) (stage : Stage := .whole)
  /-- ROUTE_FLUSH (R59). -/
  | routeFlush (tag : Byte) (scope : Byte) (force : Byte) (stage : Stage := .whole)
  /-- ROUTE_PROBE (R62). -/
  | routeProbe (tag : Byte) (key : Half) (width : Byte) (domain : Byte) (stage : Stage := .whole)
  /-- ROUTE_READ (R63). -/
  | routeRead (tag : Byte) (index : Byte) (stage : Stage := .whole)
  /-- PARK_RESOLVE (R84, R85). -/
  | parkResolve (tag : Byte) (number : Half) (decision : Byte) (target : Byte) (stage : Stage := .whole)
  /-- PARK_SET (R89). -/
  | parkSet (tag : Byte) (timeout : Half) (stage : Stage := .whole)
  /-- PARK_LIST (R90). -/
  | parkList (tag : Byte) (stage : Stage := .whole)
  /-- FETCH (R99 to R102). -/
  | fetch (tag : Byte) (queue : Byte) (max : Byte) (wait : Half) (stage : Stage := .whole)
  /-- RELEASE (R103). -/
  | release (tag : Byte) (queue : Byte) (numbers : RawNumbers) (stage : Stage := .whole)
  /-- RETURN (R104). -/
  | returnFrames (tag : Byte) (queue : Byte) (numbers : RawNumbers) (stage : Stage := .whole)
  /-- QUEUE_SET (R105). -/
  | queueSet (tag : Byte) (queue : Byte) (capacity : Byte) (notify : Byte) (stage : Stage := .whole)
  /-- QUEUE_GET (R106). -/
  | queueGet (tag : Byte) (queue : Byte) (stage : Stage := .whole)
  /-- TRANSMIT (R120); the data count is the number of data bytes. -/
  | transmit (tag : Byte) (line : Byte) (data : List Byte) (preQuiet : Half) (notify : Byte) (stage : Stage := .whole)
  /-- FLUSH_TX (R121). -/
  | flushTx (tag : Byte) (line : Byte) (stage : Stage := .whole)
  /-- LINE_SET (R133 to R136). -/
  | lineSet (tag : Byte) (line : Byte) (config : RawConfig) (drainLimit : Half) (stage : Stage := .whole)
  /-- LINE_GET (R142). -/
  | lineGet (tag : Byte) (line : Byte) (stage : Stage := .whole)
  /-- ACK_REPORTS (R164). -/
  | ackReports (tag : Byte) (sequence : Half) (stage : Stage := .whole)
  /-- RESEND_REPORTS (R165). -/
  | resendReports (tag : Byte) (stage : Stage := .whole)
  /-- STATS (R170, R171): the request, or, with the taker `read`, the next block to be read for the STATS with the tag, which
  carries its other items as the request had them. -/
  | stats (tag : Byte) (selector : Byte) (operand : Byte) (clear : Byte) (taker : StatsTaker := .request .whole)
  /-- CHARACTER_RECEIVED (R130): the stop sample of a character, with the data, parity and stop samples (true for mark). -/
  | characterReceived (line : LineNo) (data : Byte) (parityBit : Bool) (stopBit : Bool)
  /-- CANDIDATE_FRAMING_CHARACTER (R131): the line returns to mark in CANDIDATE. -/
  | candidateFramingCharacter (line : LineNo)
  /-- BREAK_DETECTED (R131). -/
  | breakDetected (line : LineNo)
  /-- BREAK_END (R131): the line returns to mark after a break. -/
  | breakEnd (line : LineNo)
  /-- QUIET_TIMER_EXPIRY (R9). -/
  | quietTimerExpiry (line : LineNo) (after : Nat := 0)
  /-- GAP_TIMER_EXPIRY (R18); `turnWaits` lets the end of a received character come before a transmitter takes the turn that
  this frees (R124, log 31). -/
  | gapTimerExpiry (line : LineNo) (after : Nat := 0) (turnWaits : Bool := false)
  /-- SPAN_TIMER_EXPIRY (R18); `turnWaits` as in GAP_TIMER_EXPIRY. -/
  | spanTimerExpiry (line : LineNo) (after : Nat := 0) (turnWaits : Bool := false)
  /-- FRAME_TAKEN (R67): RE takes the oldest frame the unit of the line has handed to it. -/
  | frameTaken (line : LineNo)
  /-- PARK_TIMER_EXPIRY (R83) of the frame parked under the number. -/
  | parkTimerExpiry (number : Half) (after : Nat := 0)
  /-- WAIT_TIMER_EXPIRY (R101) of the queue's held fetch. -/
  | waitTimerExpiry (queue : QueueNo) (after : Nat := 0)
  /-- PRE_QUIET_EXPIRY (R115). -/
  | preQuietExpiry (line : LineNo) (after : Nat := 0)
  /-- CHARACTER_SENT (R117): the last stop bit of the character going out on LTXD. -/
  | characterSent (line : LineNo)
  /-- DRAIN_LIMIT_EXPIRY (R138). -/
  | drainLimitExpiry (line : LineNo) (after : Nat := 0)
  /-- REPORT_RAISED (R162): RU takes the next report of the source. -/
  | reportRaised (source : Source)
  /-- LOSS_HANDED (R167): RU, or the Line Port of a line, takes the next loss that the source has handed to it. -/
  | lossHanded (source : Source) (taker : LossTaker := .ru)
  /-- HOST_BYTE_RECEIVED (R144, R146): the stop sample of a byte on RXD, true for mark; `fromMark` says that RXD has been at
  mark since the stop sample before it. -/
  | hostByteReceived (value : Byte) (stopBit : Bool := true) (fromMark : Bool := true)
  /-- UNKNOWN_REQUEST (R152): a correct request packet whose first payload byte is `code`, no code of the part, or whose
  payload is empty. -/
  | unknownRequest (tag : Byte) (code : Option Byte)
  /-- START_BIT (R130): LRXD changes from mark to space in IDLE; `glitch` says it is back at mark at the middle of the
  start bit. -/
  | startBit (line : LineNo) (glitch : Bool)
  /-- RETURN_TO_MARK (R132): the line returns to mark in WAIT_MARK with no break detected. -/
  | returnToMark (line : LineNo)
deriving DecidableEq, Repr

end Sys2Proof
end

