-- ==== Sys2Proof/Machine/State.lean ====
section
/-! DEFINITION. The state of the part, block by block, as plain data, and its value after a device reset. Each field cites
the rule that names it. What the spec defines as computed from other state (the free count and the charges of R34, the line
state of R128, a frame's length) is computed where it is read and has no field of its own. -/

namespace Sys2Proof.Machine

/-- The spec names no condition that stops the part: no command faults. The type is empty. -/
inductive Fault where
deriving DecidableEq, Repr

/-- Why a command has no meaning. -/
inductive Refusal where
  /-- Raised by an arm of exec whose command has no meaning yet; safe. No arm raises it. -/
  | notModelled (mnemonic : String)
deriving DecidableEq, Repr

/-! ### Capture plans and line configurations -/

/-- Start forms of a capture plan (01_frame_capture.md, section 1.2). -/
inductive StartForm where
  | any | quiet | lead | quietLead | brk | brkLead
deriving DecidableEq, Repr

inductive ErrorPolicy where
  | abort | mark
deriving DecidableEq, Repr

/-- The repeat field of a plan: ONCE or CONTINUOUS. -/
inductive Again where
  | once | continuous
deriving DecidableEq, Repr

inductive KeyWidth where
  | one | two
deriving DecidableEq, Repr

inductive ShortPolicy where
  | discard | default
deriving DecidableEq, Repr

/-- The park-overflow policy: DROP or DEFAULT. -/
inductive OverflowPolicy where
  | drop | default
deriving DecidableEq, Repr

/-- A capture plan (01_frame_capture.md, section 1.2). -/
structure Plan where
  startForm : StartForm
  quiet : Option Half
  lead : Option Byte
  trail : Option Byte
  gap : Option Half
  span : Option Half
  limit : Byte
  errorPolicy : ErrorPolicy
  again : Again
  keyOffset : Fin 8
  keyWidth : KeyWidth
  shortPolicy : ShortPolicy
  overflow : OverflowPolicy
  defaultQueue : QueueNo
deriving DecidableEq, Repr

inductive Mode where
  | off | on
deriving DecidableEq, Repr

/-- The rates of R129, in bit/s. -/
inductive Rate where
  | r1200 | r2400 | r4800 | r9600 | r19200 | r38400 | r57600 | r115200 | r230400 | r460800 | r921600
deriving DecidableEq, Repr

inductive DataBits where
  | seven | eight
deriving DecidableEq, Repr

inductive Parity where
  | noParity | even | odd
deriving DecidableEq, Repr

inductive StopBits where
  | one | two
deriving DecidableEq, Repr

inductive Duplex where
  | full | half
deriving DecidableEq, Repr

/-- A line's configuration, with the defaults of R129. -/
structure LineConfig where
  mode : Mode := .off
  rate : Rate := .r9600
  dataBits : DataBits := .eight
  parity : Parity := .noParity
  stopBits : StopBits := .one
  duplex : Duplex := .full
  domain : Domain := 0
deriving DecidableEq, Repr

/-! ### The Frame Pool -/

/-- Close reasons (R4, R21). -/
inductive CloseReason where
  | trail | gap | span | limit | brk | cancelled | error | lost
deriving DecidableEq, Repr

/-- The route origin of a dispatched frame (R71). -/
inductive RouteOrigin where
  | entry (index : RouteNo)
  | host
  | default
deriving DecidableEq, Repr

/-- The frame record (R21, R176). The length is the length of the slot's data. -/
structure FrameRecord where
  line : LineNo := 0
  sequence : Half := 0
  closeReason : Option CloseReason := none
  key : Half := 0
  keyPresent : Bool := false
  errorMarked : Bool := false
  mirrorCopy : Bool := false
  deliveryNumber : Half := 0
  routeOrigin : Option RouteOrigin := none
  errorCount : Nat := 0
  openTime : Time := 0
  closeTime : Time := 0
deriving DecidableEq, Repr

/-- Slot states (R32). -/
inductive SlotState where
  | free | collecting | withRE | parked | queued | lent | txQueued | sending
deriving DecidableEq, Repr

/-- To whom a slot is charged (R34). -/
inductive Owner where
  | line (n : LineNo)
  | host
deriving DecidableEq, Repr

/-- A slot of FP (R32, R34). A FREE slot has the values below and holds nothing. -/
structure Slot where
  state : SlotState := .free
  owner : Option Owner := none
  data : List Byte := []
  record : FrameRecord := {}
deriving DecidableEq, Repr

/-- The pool counters (R44). -/
structure PoolCounters where
  captureGranted : Counter := 0
  mirrorGranted : Counter := 0
  transmitGranted : Counter := 0
  refusedQuota : Counter := 0
  refusedNoSlot : Counter := 0
  freed : Counter := 0
  leastFree : Nat := Config.slots
deriving DecidableEq, Repr

/-- FP (R32 to R45). -/
structure FramePool where
  slots : Vector Slot 128 := Vector.replicate 128 {}
  quotas : Vector Nat 8 := Vector.replicate 8 Config.defaultQuota
  counters : PoolCounters := {}
deriving DecidableEq, Repr

/-! ### Timers -/

/-- A running timer (R1), in microseconds: it may expire once `wait` more have passed, and must within the `grace` after
that, one unit at its start (log 4). -/
structure Timer where
  wait : Nat
  grace : Nat
deriving DecidableEq, Repr

/-! ### Capture Units -/

/-- Capture states (R4). -/
inductive CaptureState where
  | disarmed | huntQuiet | huntBreak | huntLead | huntAny | collecting | skipping | paused
deriving DecidableEq, Repr

/-- The frame in progress and its slot (R4, R15). Its length is that of the slot's data. -/
structure FrameInProgress where
  slot : SlotNo
  errorCount : Nat
  openTime : Time
  domain : Domain
  sequence : Half
deriving DecidableEq, Repr

/-- The skip under way (R4, R16, R30). -/
structure SkipInProgress where
  length : Nat
  sequence : Half
deriving DecidableEq, Repr

/-- The ten capture counters (R31). -/
structure CaptureCounters where
  opened : Counter := 0
  keptTrail : Counter := 0
  keptGap : Counter := 0
  keptSpan : Counter := 0
  keptLimit : Counter := 0
  keptBreak : Counter := 0
  keptCancelled : Counter := 0
  aborted : Counter := 0
  skipped : Counter := 0
  bytesKept : Counter := 0
deriving DecidableEq, Repr

/-- A Capture Unit (R4). -/
structure CaptureUnit where
  phase : CaptureState := .disarmed
  plan : Option Plan := none
  staged : Option Plan := none
  nextSeq : Half := 1
  frame : Option FrameInProgress := none
  skip : Option SkipInProgress := none
  quiet : Option Timer := none
  gap : Option Timer := none
  span : Option Timer := none
  breakInProgress : Bool := false
  lineSending : Bool := false
  lastClose : Option CloseReason := none
  counters : CaptureCounters := {}
deriving DecidableEq, Repr

/-! ### The Route Engine -/

/-- Scopes of route entries (R46). -/
inductive Scope where
  | domain (d : Domain)
  | shared
deriving DecidableEq, Repr

/-- Actions of route entries (R46). -/
inductive Action where
  | deliver (queue : QueueNo)
  | forward (line : LineNo)
  | mirror (line : LineNo) (queue : QueueNo)
  | discard
deriving DecidableEq, Repr

/-- The two in-use states of an entry (R46). -/
inductive EntryState where
  | active | suspended
deriving DecidableEq, Repr

/-- An in-use route entry (R46). -/
structure RouteEntry where
  key : Half
  width : KeyWidth
  scope : Scope
  action : Action
  rewrite : Option Half
  pinned : Bool
  state : EntryState
  hits : Counter
  stamp : Stamp
deriving DecidableEq, Repr

/-- A closed frame between its Capture Unit and RE, with what the unit hands over (R21, R67). -/
structure HandedFrame where
  slot : SlotNo
  line : LineNo
  domain : Domain
  keyOffset : Fin 8
  keyWidth : KeyWidth
  shortPolicy : ShortPolicy
  overflow : OverflowPolicy
  defaultQueue : QueueNo
deriving DecidableEq, Repr

/-- Reasons of parked frames; SUSPENDED names its entry (R76). -/
inductive ParkReason where
  | miss
  | suspended (entry : RouteNo)
  | order
deriving DecidableEq, Repr

/-- A park record with the frame's slot, key offset and park timer (R76, R78). -/
structure ParkRecord where
  number : Half
  reason : ParkReason
  line : LineNo
  width : KeyWidth
  key : Half
  domain : Domain
  sequence : Half
  length : Nat
  parkTime : Time
  deadline : Time
  keyOffset : Fin 8
  slot : SlotNo
  timer : Timer
deriving DecidableEq, Repr

/-- The table counters (R65). -/
structure TableCounters where
  installs : Counter := 0
  replaced : Counter := 0
  refusedFull : Counter := 0
  refusedConflict : Counter := 0
  removed : Counter := 0
  released : Counter := 0
  remarked : Counter := 0
deriving DecidableEq, Repr

/-- The resolution counters (R92). -/
structure ResolutionCounters where
  taken : Counter := 0
  delivered : Counter := 0
  forwarded : Counter := 0
  mirrored : Counter := 0
  discarded : Counter := 0
  defaulted : Counter := 0
  parkedMiss : Counter := 0
  parkedSuspended : Counter := 0
  parkedOrder : Counter := 0
  hostResolved : Counter := 0
  expired : Counter := 0
  cascaded : Counter := 0
  departures : Counter := 0
deriving DecidableEq, Repr

/-- RE (R46, R50, R65, R67, R76 to R78, R89, R92). An entry of the table that is FREE is absent. -/
structure RouteEngine where
  routes : Vector (Option RouteEntry) 48 := Vector.replicate 48 none
  useCounter : Stamp := 0
  handed : List HandedFrame := []
  parks : List ParkRecord := []
  parkNumber : Half := 1
  parkTimeout : Half := 500
  table : TableCounters := {}
  resolution : ResolutionCounters := {}
deriving DecidableEq, Repr

/-! ### The Queue Manager -/

/-- A held fetch (R101): the tag of its request, its max, and its wait timer. -/
structure HeldFetch where
  tag : Byte
  max : Nat
  timer : Timer
deriving DecidableEq, Repr

/-- The queue counters (R111). -/
structure QueueCounters where
  placed : Counter := 0
  dropped : Counter := 0
  fetched : Counter := 0
  released : Counter := 0
  returned : Counter := 0
deriving DecidableEq, Repr

/-- A delivery queue (R94). -/
structure DeliveryQueue where
  waiting : List SlotNo := []
  lent : List SlotNo := []
  capacity : Nat := 16
  notify : Bool := false
  armed : Bool := false
  nextNumber : Half := 1
  held : Option HeldFetch := none
  counters : QueueCounters := {}
deriving DecidableEq, Repr

/-! ### Line Ports -/

/-- Loss causes (R167). -/
inductive LossCause where
  | noSlot | quota | errorAbort | keyShort | parkFull | parkExpired | queueFull | forwardBlocked | mirrorNoSlot
deriving DecidableEq, Repr

/-- Nine loss counters, one per cause (R167). -/
structure LossCounters where
  noSlot : Counter := 0
  quota : Counter := 0
  errorAbort : Counter := 0
  keyShort : Counter := 0
  parkFull : Counter := 0
  parkExpired : Counter := 0
  queueFull : Counter := 0
  forwardBlocked : Counter := 0
  mirrorNoSlot : Counter := 0
deriving DecidableEq, Repr

/-- What forwarded a transmit entry (R112). -/
inductive RouteSource where
  | entry (index : RouteNo)
  | hostDecision
deriving DecidableEq, Repr

/-- The origin of a transmit entry (R112). -/
inductive TxOrigin where
  | host (number : Half) (notify : Bool)
  | route (source : RouteSource)
deriving DecidableEq, Repr

/-- A transmit entry (R112). -/
structure TxEntry where
  slot : SlotNo
  origin : TxOrigin
  preQuiet : Half
deriving DecidableEq, Repr

/-- Transmitter states (R114); SENDING counts the characters of the head entry sent so far. -/
inductive TxState where
  | idle
  | waitQuiet
  | waitTurn
  | sending (sent : Nat)
  | trailing
deriving DecidableEq, Repr

/-- A character as it goes out on LTXD (R117): the levels of its bits in the order they are sent, true for mark, and the
rate. -/
structure TxChar where
  levels : List Bool
  rate : Rate
deriving DecidableEq, Repr

/-- The transmit counters (R126). -/
structure TxCounters where
  hostPlaced : Counter := 0
  forwardedPlaced : Counter := 0
  sent : Counter := 0
  bytesSent : Counter := 0
  flushed : Counter := 0
  aborted : Counter := 0
deriving DecidableEq, Repr

/-- Receiver states (R128, R130, R131). -/
inductive RxState where
  | stopped | waitMark | idle | receiving | candidate
deriving DecidableEq, Repr

/-- What the commands have told of the level of LRXD (log 9). -/
inductive Level where
  | mark | space | unknown
deriving DecidableEq, Repr

/-- The receiver counters (R143). -/
structure ReceiverCounters where
  characters : Counter := 0
  parityErrors : Counter := 0
  framingErrors : Counter := 0
  breaks : Counter := 0
deriving DecidableEq, Repr

/-- The requester of a drain (R128). -/
inductive Requester where
  | attached (tag : Byte)
  | detached
deriving DecidableEq, Repr

/-- A drain under way (R128, R136, R138): `timer` is the drain limit timer, and `aborted` and `flushed` count what a cut
has ended. -/
structure Drain where
  pending : LineConfig
  limit : Half
  timer : Option Timer
  requester : Requester
  cutDone : Bool
  aborted : Nat
  flushed : Nat
deriving DecidableEq, Repr

/-- A Line Port (R112 to R117, R128, R167). -/
structure LinePort where
  config : LineConfig := {}
  drain : Option Drain := none
  receiver : RxState := .stopped
  breakInProgress : Bool := false
  breakWatch : Bool := false
  breakDeaf : Bool := false
  level : Level := .unknown
  rxCounters : ReceiverCounters := {}
  txQueue : List TxEntry := []
  txState : TxState := .idle
  preQuiet : Option Timer := none
  onWire : Option TxChar := none
  ldir : Bool := false
  nextTxNumber : Half := 1
  txCounters : TxCounters := {}
  losses : LossCounters := {}
deriving DecidableEq, Repr

/-! ### The Host Link -/

/-- The states of the host-link receiver (R146). -/
inductive LinkRxState where
  | huntSync | length | body | check
deriving DecidableEq, Repr

/-- Causes of a discarded packet (R148). -/
inductive DiscardCause where
  | gap | length | check | kind
deriving DecidableEq, Repr

inductive Session where
  | closed | opened
deriving DecidableEq, Repr

/-- Causes of a device reset (R159). -/
inductive ResetCause where
  | power | pin | request
deriving DecidableEq, Repr

/-- An occupied request slot (R151). -/
structure RequestSlot where
  tag : Byte
  code : Byte
deriving DecidableEq, Repr

/-- The request that caused a session end (R155). An OPEN keeps the device time at which it was taken (R154). -/
inductive EndCause where
  | byClose (tag : Byte)
  | byOpen (tag : Byte) (takenAt : Time)
deriving DecidableEq, Repr

/-- A session open on its way through RU and RE (R154): the OPEN's tag, the device time at which it was taken and whether it
ended a session, whether RU has taken the session open, and the parked frames once RE has counted them. -/
structure SessionOpening where
  tag : Byte
  takenAt : Time
  ended : Bool
  reportsTaken : Bool := false
  parked : Option Nat := none
deriving DecidableEq, Repr

/-- A session end on its way through the blocks (R155): which of them have taken it, and the numbers that the CLOSE reply
carries (R156), as far as they are known. -/
structure SessionEnding where
  cause : EndCause
  queuesTaken : Bool := false
  portsTaken : Vector Bool 8 := Vector.replicate 8 false
  reportsTaken : Bool := false
  cancelled : Nat := 0
  returned : Nat := 0
  detached : Nat := 0
  dropped : Nat := 0
deriving DecidableEq, Repr

/-- What an outgoing packet is (R160). -/
inductive OutKind where
  | reply
  | resetReply
  | refusal
  | notice
  | report (sequence : Half)
deriving DecidableEq, Repr

/-- A packet of the outgoing list: what it is, its tag and its payload (R145, R160). -/
structure OutPacket where
  kind : OutKind
  tag : Byte
  payload : List Byte
deriving DecidableEq, Repr

/-- The link counters (R160). -/
structure LinkCounters where
  requestsTaken : Counter := 0
  bytesSkipped : Counter := 0
  discardsGap : Counter := 0
  discardsLength : Counter := 0
  discardsCheck : Counter := 0
  discardsKind : Counter := 0
  noticesNotSent : Counter := 0
  refusalsNotSent : Counter := 0
deriving DecidableEq, Repr

/-- A block that owns requests (the table of R153). -/
inductive Block where
  | cu (line : LineNo)
  | fp
  | re
  | qm
  | lp (line : LineNo)
  | ru
deriving DecidableEq, Repr

/-- HL (R144 to R160). `handed` holds the requests that HL has handed to blocks and they have not taken, in the order of
acceptance (R153); `incoming` what blocks have handed to HL and HL has not taken, in the order handed (R160). The outgoing list
is the packet being sent and the packets waiting behind it; `rxSpace` says that the last byte taken had its stop bit at space
(R144, log 30). -/
structure HostLink where
  straps : Straps := ⟨true, true⟩
  rxSpace : Bool := false
  rx : LinkRxState := .huntSync
  kept : List Byte := []
  gapTimer : Option Timer := none
  slots : List RequestSlot := []
  handed : List (Block × Instr) := []
  session : Session := .closed
  opening : Option SessionOpening := none
  ending : Option SessionEnding := none
  opensWaiting : List Byte := []
  incoming : List OutPacket := []
  sending : Option OutPacket := none
  waiting : List OutPacket := []
  noticesUnsent : Half := 0
  ignoring : Bool := false
  cause : ResetCause := .power
  counters : LinkCounters := {}
deriving DecidableEq, Repr

/-! ### The Report Unit -/

/-- Results of TX_DONE (R125). -/
inductive TxResult where
  | sent | flushed | aborted
deriving DecidableEq, Repr

/-- Reports with their data (R178). -/
inductive Report where
  | queueReady (queue : QueueNo) (waiting : Nat)
  | routeMiss (number : Half) (line : LineNo) (key : Half) (width : KeyWidth) (length : Nat)
  | routeHeld (number : Half) (entry : RouteNo) (line : LineNo) (key : Half)
  | parkExpired (number : Half) (line : LineNo) (key : Half) (reason : ParkReason)
  | txDone (number : Half) (line : LineNo) (result : TxResult)
  | captureDone (line : LineNo) (reason : CloseReason)
  | loss (counters : LossCounters)
  | reportsLost (count : Half)
deriving DecidableEq, Repr

/-- A report of the Report Queue (R161). -/
structure QueuedReport where
  sequence : Half
  report : Report
deriving DecidableEq, Repr

/-- Who has yet to take a loss: RU and the Line Port of its line, or one of them (R167). -/
inductive LossWait where
  | both | ru | lp
deriving DecidableEq, Repr

/-- What a block has raised: a report, for RU to take (R161), or a loss, for RU and for the Line Port of its line to take, each
for itself (R167). -/
inductive Raised where
  | report (r : Report)
  | loss (cause : LossCause) (line : LineNo) (waits : LossWait := .both)
deriving DecidableEq, Repr

/-- A read of counters that RU has handed to a block (R170): to the Capture Unit of a line, to the Line Port of a line with the
capture counters as its unit returned them, to QM, to RE or to FP. -/
inductive BlockRead where
  | unit (line : LineNo)
  | port (line : LineNo) (capture : CaptureCounters)
  | queue (q : QueueNo)
  | routes
  | pool
deriving DecidableEq, Repr

/-- A STATS that waits for a block (R170): its tag, its clear flag, and the read it waits for. -/
structure StatsRead where
  tag : Byte
  clear : Bool
  next : BlockRead
deriving DecidableEq, Repr

/-- RU (R161). `inbox` holds, in the order raised, what RU, or for a loss its Line Port, has yet to take (R161, R167); `reads`
the STATS that wait for a block (R170). -/
structure ReportUnit where
  reporting : Bool := false
  queue : List QueuedReport := []
  nextSeq : Half := 1
  lost : Half := 0
  lossPending : Bool := false
  losses : LossCounters := {}
  inbox : List (Source × Raised) := []
  reads : List StatsRead := []
deriving DecidableEq, Repr

/-! ### The part -/

/-- The state of the LC8, the queue of waiting commands and the count of free-value readings (log 9, log 17). -/
structure State where
  pending : List Instr := []
  time : Time := 0
  units : Vector CaptureUnit 8 := Vector.replicate 8 {}
  pool : FramePool := {}
  re : RouteEngine := {}
  queues : Vector DeliveryQueue 8 := Vector.replicate 8 {}
  ports : Vector LinePort 8 := Vector.replicate 8 {}
  hl : HostLink := {}
  ru : ReportUnit := {}
  freeCount : Nat := 0
deriving DecidableEq, Repr

/-- The part after power-up with both straps at their pull-ups: every field at the reset value its rule gives (log 10). What is
under way between blocks has no reset value in the rules, and none is under way here (log 33). -/
def State.reset : State := {}

/-- The slot with the number. -/
def State.slot (s : State) (i : SlotNo) : Slot := s.pool.slots[i]
/-- The Capture Unit of the line. -/
def State.unit (s : State) (n : LineNo) : CaptureUnit := s.units[n]
/-- The Line Port of the line. -/
def State.port (s : State) (n : LineNo) : LinePort := s.ports[n]
/-- The delivery queue. -/
def State.queue (s : State) (q : QueueNo) : DeliveryQueue := s.queues[q]
/-- The entry at the index, absent where FREE. -/
def State.route (s : State) (i : RouteNo) : Option RouteEntry := s.re.routes[i]

end Sys2Proof.Machine
end

