-- ==== Sys2Proof/Machine/Formats.lean ====
section
/-! DEFINITION. The bytes the host sees: the codes of section 10.3 of 10_message_and_record_formats.md, the encodings of
R172, the records of R175 and R176, the report and notice payloads of R178, and the packet with its CRC (R145). -/

namespace Sys2Proof.Machine

/-! ### Numbers (R172) -/

/-- One byte holding a small number. -/
def byteOf (n : Nat) : Byte := BitVec.ofNat 8 n

/-- A two-byte item, least significant byte first. -/
def le16 (h : Half) : List Byte := [h.extractLsb' 0 8, h.extractLsb' 8 8]

/-- A four-byte item, least significant byte first. -/
def le32 (w : BitVec 32) : List Byte :=
  [w.extractLsb' 0 8, w.extractLsb' 8 8, w.extractLsb' 16 8, w.extractLsb' 24 8]

/-- A six-byte item, least significant byte first. -/
def le48 (w : Stamp) : List Byte :=
  [w.extractLsb' 0 8, w.extractLsb' 8 8, w.extractLsb' 16 8, w.extractLsb' 24 8, w.extractLsb' 32 8, w.extractLsb' 40 8]

/-- The two-byte item whose low byte comes first. -/
def half (lo hi : Byte) : Half := hi ++ lo

/-- A set-or-clear flag. -/
def flagByte (b : Bool) : Byte := if b then 1 else 0

/-- An optional item: presence byte, then the item where present. -/
def optBytes {α : Type} (f : α → List Byte) : Option α → List Byte
  | none => [0]
  | some a => 1 :: f a

/-! ### Codes (section 10.3) -/

def StartForm.code : StartForm → Byte
  | .any => 0 | .quiet => 1 | .lead => 2 | .quietLead => 3 | .brk => 4 | .brkLead => 5

def ErrorPolicy.code : ErrorPolicy → Byte
  | .abort => 0 | .mark => 1

def Again.code : Again → Byte
  | .once => 0 | .continuous => 1

def ShortPolicy.code : ShortPolicy → Byte
  | .discard => 0 | .default => 1

def OverflowPolicy.code : OverflowPolicy → Byte
  | .drop => 0 | .default => 1

/-- A key width as a number (R172). -/
def KeyWidth.bytes : KeyWidth → Nat
  | .one => 1 | .two => 2

def KeyWidth.code (w : KeyWidth) : Byte := byteOf w.bytes

def CaptureState.code : CaptureState → Byte
  | .disarmed => 0 | .huntQuiet => 1 | .huntBreak => 2 | .huntLead => 3 | .huntAny => 4 | .collecting => 5
  | .skipping => 6 | .paused => 7

def CloseReason.code : CloseReason → Byte
  | .trail => 1 | .gap => 2 | .span => 3 | .limit => 4 | .brk => 5 | .cancelled => 6 | .error => 7 | .lost => 8

def Scope.code : Scope → Byte
  | .domain d => byteOf d.val | .shared => 16

def Action.code : Action → Byte
  | .deliver _ => 0 | .forward _ => 1 | .mirror _ _ => 2 | .discard => 3

/-- The action's line byte, 0 where the action does not use it. -/
def Action.lineByte : Action → Byte
  | .forward n => byteOf n.val | .mirror n _ => byteOf n.val | _ => 0

/-- The action's queue byte, 0 where the action does not use it. -/
def Action.queueByte : Action → Byte
  | .deliver q => byteOf q.val | .mirror _ q => byteOf q.val | _ => 0

def EntryState.code : EntryState → Byte
  | .active => 1 | .suspended => 2

/-- The state code of a table place: 0 FREE, else that of its entry. -/
def entryStateCode : Option RouteEntry → Byte
  | none => 0 | some e => e.state.code

def ParkReason.code : ParkReason → Byte
  | .miss => 0 | .suspended _ => 1 | .order => 2

/-- The entry index byte of a park record: 0xFF for MISS and ORDER (R175). -/
def ParkReason.entryByte : ParkReason → Byte
  | .suspended i => byteOf i.val | _ => 0xFF

def Mode.code : Mode → Byte
  | .off => 0 | .on => 1

def Rate.code : Rate → Byte
  | .r1200 => 0 | .r2400 => 1 | .r4800 => 2 | .r9600 => 3 | .r19200 => 4 | .r38400 => 5 | .r57600 => 6
  | .r115200 => 7 | .r230400 => 8 | .r460800 => 9 | .r921600 => 10

def DataBits.code : DataBits → Byte
  | .seven => 7 | .eight => 8

def Parity.code : Parity → Byte
  | .noParity => 0 | .even => 1 | .odd => 2

def StopBits.code : StopBits → Byte
  | .one => 1 | .two => 2

def Duplex.code : Duplex → Byte
  | .full => 0 | .half => 1

/-- Line states (R128). -/
inductive LineState where
  | off | active | draining
deriving DecidableEq, Repr

/-- The line state follows the mode in force, and DRAINING lasts as long as a drain (R128). -/
def LinePort.lineState (p : LinePort) : LineState :=
  match p.config.mode with
  | .off => .off
  | .on => if p.drain.isSome then .draining else .active

def LineState.code : LineState → Byte
  | .off => 0 | .active => 1 | .draining => 2

/-- LINE_SET outcomes (R133). -/
inductive LineSetOutcome where
  | applied | drained | cut
deriving DecidableEq, Repr

def LineSetOutcome.code : LineSetOutcome → Byte
  | .applied => 0 | .drained => 1 | .cut => 2

def TxState.code : TxState → Byte
  | .idle => 0 | .waitQuiet => 1 | .waitTurn => 2 | .sending _ => 3 | .trailing => 4

def TxResult.code : TxResult → Byte
  | .sent => 0 | .flushed => 1 | .aborted => 2

def LossCause.code : LossCause → Byte
  | .noSlot => 0 | .quota => 1 | .errorAbort => 2 | .keyShort => 3 | .parkFull => 4 | .parkExpired => 5
  | .queueFull => 6 | .forwardBlocked => 7 | .mirrorNoSlot => 8

def ResetCause.code : ResetCause → Byte
  | .power => 1 | .pin => 2 | .request => 3

def Session.code : Session → Byte
  | .closed => 0 | .opened => 1

def DiscardCause.code : DiscardCause → Byte
  | .gap => 1 | .length => 2 | .check => 3 | .kind => 4

/-- The strap code of the host-link rate (R144, section 10.3): HRATE1 is the high bit. -/
def strapCode (p : Straps) : Byte := flagByte p.hrate1 * 2 + flagByte p.hrate0

/-- The host-link rate the straps select, in bit/s (R144). -/
def strapRate (p : Straps) : Nat :=
  match p.hrate1, p.hrate0 with
  | false, false => 115200
  | false, true => 460800
  | true, false => 921600
  | true, true => 2000000

def RouteOrigin.code : RouteOrigin → Byte
  | .entry i => byteOf i.val | .host => 0xFE | .default => 0xFF

/-- Reply statuses (section 10.3). -/
inductive Status where
  | ok | applied | staged | cancelled | badTag | tagInUse | busy | unknownRequest | badLength | badParam | unknownTag
  | noSession | lineOff | lineBusy | txQueueFull | hostQuota | noSlot | tableFull | conflict | notFound | unknownPark
  | orderHeld | noEntry | queueBusy | lentFull | unknownDelivery | unknownSequence
deriving DecidableEq, Repr

def Status.code : Status → Byte
  | .ok => 0 | .applied => 1 | .staged => 2 | .cancelled => 3 | .badTag => 0x10 | .tagInUse => 0x11 | .busy => 0x12
  | .unknownRequest => 0x13 | .badLength => 0x14 | .badParam => 0x15 | .unknownTag => 0x16 | .noSession => 0x17
  | .lineOff => 0x18 | .lineBusy => 0x19 | .txQueueFull => 0x1A | .hostQuota => 0x1B | .noSlot => 0x1C
  | .tableFull => 0x20 | .conflict => 0x21 | .notFound => 0x22 | .unknownPark => 0x23 | .orderHeld => 0x24
  | .noEntry => 0x25 | .queueBusy => 0x28 | .lentFull => 0x29 | .unknownDelivery => 0x2A | .unknownSequence => 0x2B

/-! ### Records (R175, R176) -/

/-- The capture plan record (R175). -/
def Plan.record (p : Plan) : List Byte :=
  [p.startForm.code] ++ optBytes le16 p.quiet ++ optBytes (fun b => [b]) p.lead ++ optBytes (fun b => [b]) p.trail
    ++ optBytes le16 p.gap ++ optBytes le16 p.span
    ++ [p.limit, p.errorPolicy.code, p.again.code, byteOf p.keyOffset.val, p.keyWidth.code, p.shortPolicy.code,
      p.overflow.code, byteOf p.defaultQueue.val]

/-- The line configuration record (R175). -/
def LineConfig.record (c : LineConfig) : List Byte :=
  [c.mode.code, c.rate.code, c.dataBits.code, c.parity.code, c.stopBits.code, c.duplex.code, byteOf c.domain.val]

/-- The route entry record of ROUTE_READ (R175); `held` is the number of frames parked SUSPENDED on the entry. -/
def routeRecord (index : RouteNo) (entry : Option RouteEntry) (held : Nat) : List Byte :=
  match entry with
  | none => [byteOf index.val, 0]
  | some e =>
    [byteOf index.val, e.state.code] ++ le16 e.key ++ [e.width.code, e.scope.code, e.action.code, e.action.lineByte,
      e.action.queueByte] ++ optBytes le16 e.rewrite ++ [flagByte e.pinned] ++ le32 e.hits ++ le48 e.stamp ++ [byteOf held]

/-- The park record of PARK_LIST (R175). -/
def ParkRecord.bytes (r : ParkRecord) : List Byte :=
  le16 r.number ++ [r.reason.code, r.reason.entryByte, byteOf r.line.val, r.width.code] ++ le16 r.key
    ++ [byteOf r.domain.val] ++ le16 r.sequence ++ [byteOf r.length] ++ le32 r.parkTime ++ le32 r.deadline

/-- The flags byte of a frame header (R176). -/
def FrameRecord.flags (r : FrameRecord) : Byte :=
  flagByte r.keyPresent + flagByte r.errorMarked * 2 + flagByte r.mirrorCopy * 4

/-- The 20-byte header of a lent frame and its data (R176). -/
def Slot.frameBytes (x : Slot) : List Byte :=
  [byteOf x.record.line.val, x.record.flags] ++ le16 x.record.sequence ++ le16 x.record.deliveryNumber
    ++ [byteOf x.data.length, (x.record.closeReason.map CloseReason.code).getD 0] ++ le16 x.record.key
    ++ [(x.record.routeOrigin.map RouteOrigin.code).getD 0xFF, byteOf x.record.errorCount]
    ++ le32 x.record.openTime ++ le32 x.record.closeTime ++ x.data

/-- The nine loss counters in loss-cause order (section 10.3). -/
def LossCounters.bytes (c : LossCounters) : List Byte :=
  le32 c.noSlot ++ le32 c.quota ++ le32 c.errorAbort ++ le32 c.keyShort ++ le32 c.parkFull ++ le32 c.parkExpired
    ++ le32 c.queueFull ++ le32 c.forwardBlocked ++ le32 c.mirrorNoSlot

/-- The capacities of the OPEN and IDENTIFY replies (R154). -/
def capacityBytes : List Byte :=
  [byteOf Config.slots, byteOf Config.routeEntries, byteOf Config.parkPlaces, byteOf Config.queues,
    byteOf Config.reportPlaces, byteOf Config.requestSlots]

/-- The counters of each group, in the order of the table that specifies it (R177). -/
def CaptureCounters.bytes (c : CaptureCounters) : List Byte :=
  le32 c.opened ++ le32 c.keptTrail ++ le32 c.keptGap ++ le32 c.keptSpan ++ le32 c.keptLimit ++ le32 c.keptBreak
    ++ le32 c.keptCancelled ++ le32 c.aborted ++ le32 c.skipped ++ le32 c.bytesKept

def ReceiverCounters.bytes (c : ReceiverCounters) : List Byte :=
  le32 c.characters ++ le32 c.parityErrors ++ le32 c.framingErrors ++ le32 c.breaks

def TxCounters.bytes (c : TxCounters) : List Byte :=
  le32 c.hostPlaced ++ le32 c.forwardedPlaced ++ le32 c.sent ++ le32 c.bytesSent ++ le32 c.flushed ++ le32 c.aborted

def QueueCounters.bytes (c : QueueCounters) : List Byte :=
  le32 c.placed ++ le32 c.dropped ++ le32 c.fetched ++ le32 c.released ++ le32 c.returned

def TableCounters.bytes (c : TableCounters) : List Byte :=
  le32 c.installs ++ le32 c.replaced ++ le32 c.refusedFull ++ le32 c.refusedConflict ++ le32 c.removed
    ++ le32 c.released ++ le32 c.remarked

def ResolutionCounters.bytes (c : ResolutionCounters) : List Byte :=
  le32 c.taken ++ le32 c.delivered ++ le32 c.forwarded ++ le32 c.mirrored ++ le32 c.discarded ++ le32 c.defaulted
    ++ le32 c.parkedMiss ++ le32 c.parkedSuspended ++ le32 c.parkedOrder ++ le32 c.hostResolved ++ le32 c.expired
    ++ le32 c.cascaded ++ le32 c.departures

def PoolCounters.bytes (c : PoolCounters) : List Byte :=
  le32 c.captureGranted ++ le32 c.mirrorGranted ++ le32 c.transmitGranted ++ le32 c.refusedQuota
    ++ le32 c.refusedNoSlot ++ le32 c.freed ++ [byteOf c.leastFree]

def LinkCounters.bytes (c : LinkCounters) : List Byte :=
  le32 c.requestsTaken ++ le32 c.bytesSkipped ++ le32 c.discardsGap ++ le32 c.discardsLength ++ le32 c.discardsCheck
    ++ le32 c.discardsKind ++ le32 c.noticesNotSent ++ le32 c.refusalsNotSent

/-! ### Reports and notices (R178) -/

/-- A report's code and data (R178). -/
def Report.bytes : Report → List Byte
  | .queueReady q n => [1, byteOf q.val, byteOf n]
  | .routeMiss k line key width length => 2 :: le16 k ++ [byteOf line.val] ++ le16 key ++ [width.code, byteOf length]
  | .routeHeld k entry line key => 3 :: le16 k ++ [byteOf entry.val, byteOf line.val] ++ le16 key
  | .parkExpired k line key reason => 4 :: le16 k ++ [byteOf line.val] ++ le16 key ++ [reason.code]
  | .txDone k line result => 5 :: le16 k ++ [byteOf line.val, result.code]
  | .captureDone line reason => [6, byteOf line.val, reason.code]
  | .loss c => 7 :: c.bytes
  | .reportsLost n => 8 :: le16 n

/-- A report's payload: its sequence number, code and data (R145, R178). -/
def QueuedReport.payload (r : QueuedReport) : List Byte := le16 r.sequence ++ r.report.bytes

/-! ### Packets (R145) -/

/-- One bit of the CRC register: polynomial x^16 + x^12 + x^5 + 1, most significant bit first. -/
def crcBit (r : Half) : Half := if r.msb then (r <<< 1) ^^^ 0x1021 else r <<< 1

/-- One byte enters the CRC register. -/
def crcByte (r : Half) (b : Byte) : Half :=
  crcBit (crcBit (crcBit (crcBit (crcBit (crcBit (crcBit (crcBit (r ^^^ (b ++ (0 : Byte))))))))))

/-- The CRC of a run of bytes; the register starts at all ones (R145). -/
def crc16 (bs : List Byte) : Half := bs.foldl crcByte 0xFFFF

/-- The bytes from the first length byte to the last payload byte, over which the CRC is computed (R145). -/
def packetBody (kind tag : Byte) (payload : List Byte) : List Byte :=
  le16 (BitVec.ofNat 16 (payload.length + 2)) ++ kind :: tag :: payload

/-- A whole packet: sync, body and check, the check high byte first (R145). -/
def packetBytes (kind tag : Byte) (payload : List Byte) : List Byte :=
  let body := packetBody kind tag payload
  Config.sync :: body ++ [(crc16 body).extractLsb' 8 8, (crc16 body).extractLsb' 0 8]

/-- The kind byte of an outgoing packet (R145). -/
def OutKind.kindByte : OutKind → Byte
  | .reply => 2 | .resetReply => 2 | .refusal => 2 | .report _ => 3 | .notice => 4

/-- The levels of a byte on RXD or TXD in the order they are sent, true for mark: a start bit, 8 data bits least significant
first, no parity bit and one stop bit (R144). -/
def byteLevels (b : Byte) : List Bool := false :: (List.range 8).map b.getLsbD ++ [true]

/-- The bytes of an outgoing packet on TXD (R145, R160). -/
def OutPacket.bytes (p : OutPacket) : List Byte := packetBytes p.kind.kindByte p.tag p.payload

/-- The levels of an outgoing packet on TXD, its bytes sent back to back (R144). -/
def OutPacket.levels (p : OutPacket) : List Bool := p.bytes.flatMap byteLevels

end Sys2Proof.Machine
end

