-- ==== Sys2Proof/WellFormed.lean ====
section
/-! DEFINITION. Which commands stand for something the host or a line can do. A request is well formed when its items fit
the layouts of 10_message_and_record_formats.md; the values themselves may be out of range, since the part refuses those
(R152). -/

namespace Sys2Proof

/-- The request codes of the part (10_message_and_record_formats.md, section 10.3). -/
def requestCodes : List Byte :=
  [0x01, 0x02, 0x03, 0x04, 0x05, 0x10, 0x11, 0x12, 0x18, 0x19, 0x20, 0x21, 0x22, 0x23, 0x24, 0x25, 0x28, 0x29, 0x2A,
   0x30, 0x31, 0x32, 0x33, 0x34, 0x38, 0x39, 0x3A, 0x3B, 0x40, 0x41, 0x42]

/-- An absent optional item has no value bytes (R172): its value is written 0. -/
def OptItem.wf {n : Nat} (o : OptItem (BitVec n)) : Bool :=
  o.presence != 0 || o.value == 0

/-- Every optional item of a plan is well formed. -/
def RawPlan.wf (p : RawPlan) : Bool :=
  p.quiet.wf && p.lead.wf && p.trail.wf && p.gap.wf && p.span.wf

/-- A list of delivery numbers is announced by one count byte other than 0xFF, which means ALL (R172). -/
def RawNumbers.wf : RawNumbers → Bool
  | .all => true
  | .listed ns => decide (ns.length < 255)

/-- The form byte of a ROUTE_REMOVE by key is not 0 (R174: any value other than 0 is walked as form 1). -/
def RawRemove.wf : RawRemove → Bool
  | .byIndex _ => true
  | .byKey form _ _ _ => form != 0

/-- The command stands for a packet or event that can occur. -/
def Instr.wf : Instr → Bool
  | .arm _ _ plan _ => plan.wf
  | .routeInstall _ route _ => route.rewrite.wf
  | .routeRemove _ target _ => target.wf
  | .release _ _ numbers _ => numbers.wf
  | .returnFrames _ _ numbers _ => numbers.wf
  | .transmit _ _ data _ _ _ => decide (data.length < 256)
  | .unknownRequest _ (some code) => !requestCodes.contains code
  | _ => true

end Sys2Proof
end

