-- ==== Sys2Proof/Decode.lean ====
section
/-! DEFINITION. Reading a request packet's payload as a command and writing a command's payload, both from the request table
of section 10.3 and the walk of R174. No row of spec/opcode_table.json gives bits, so no word spells a command. -/

namespace Sys2Proof

open Sys2Proof.Machine

/-- The command a word spells by the table's bits: the table gives none of its rows bits. -/
def decodeTableWord (_nbits _w : Nat) : Option Instr := none

/-! ### The walk of R174 -/

/-- A step of the walk: an item and the bytes after it, or none when the payload ends before the item. -/
abbrev Walk (α : Type) := List Byte → Option (α × List Byte)

/-- A one-byte item. -/
def walkByte : Walk Byte
  | b :: rest => some (b, rest)
  | [] => none

/-- A two-byte item, least significant byte first (R172). -/
def walkHalf : Walk Half
  | lo :: hi :: rest => some (half lo hi, rest)
  | _ => none

/-- An optional item: its presence byte is read, and the value when that byte is not 0 (R174). -/
def walkOpt {n : Nat} (item : Walk (BitVec n)) : Walk (OptItem (BitVec n))
  | [] => none
  | b :: rest => if b = 0 then some (⟨0, 0⟩, rest) else (item rest).map fun (v, rest) => (⟨b, v⟩, rest)

/-- A run of `n` two-byte items. -/
def walkHalves : Nat → Walk (List Half)
  | 0, rest => some ([], rest)
  | n + 1, rest => (walkHalf rest).bind fun (h, rest) => (walkHalves n rest).map fun (hs, rest) => (h :: hs, rest)

/-- A byte string of `n` bytes. -/
def walkString (n : Nat) : Walk (List Byte) := fun rest =>
  if n ≤ rest.length then some (rest.take n, rest.drop n) else none

/-- A delivery-number list: the count 0xFF stands for ALL (R172, R174). -/
def walkNumbers : Walk RawNumbers := fun rest => do
  let (count, rest) ← walkByte rest
  if count = 0xFF then some (.all, rest)
  else
    let (ns, rest) ← walkHalves count.toNat rest
    some (.listed ns, rest)

/-- The capture plan record (R175). -/
def walkPlan : Walk RawPlan := fun rest => do
  let (startForm, rest) ← walkByte rest
  let (quiet, rest) ← walkOpt walkHalf rest
  let (lead, rest) ← walkOpt walkByte rest
  let (trail, rest) ← walkOpt walkByte rest
  let (gap, rest) ← walkOpt walkHalf rest
  let (span, rest) ← walkOpt walkHalf rest
  let (limit, rest) ← walkByte rest
  let (errorPolicy, rest) ← walkByte rest
  let (again, rest) ← walkByte rest
  let (keyOffset, rest) ← walkByte rest
  let (keyWidth, rest) ← walkByte rest
  let (shortPolicy, rest) ← walkByte rest
  let (overflow, rest) ← walkByte rest
  let (defaultQueue, rest) ← walkByte rest
  some ({ startForm, quiet, lead, trail, gap, span, limit, errorPolicy, again, keyOffset, keyWidth, shortPolicy,
          overflow, defaultQueue }, rest)

/-- The line configuration record (R175). -/
def walkConfig : Walk RawConfig := fun rest => do
  let (mode, rest) ← walkByte rest
  let (rate, rest) ← walkByte rest
  let (dataBits, rest) ← walkByte rest
  let (parity, rest) ← walkByte rest
  let (stopBits, rest) ← walkByte rest
  let (duplex, rest) ← walkByte rest
  let (domain, rest) ← walkByte rest
  some ({ mode, rate, dataBits, parity, stopBits, duplex, domain }, rest)

/-- The parameters of ROUTE_INSTALL. -/
def walkRoute : Walk RawRoute := fun rest => do
  let (index, rest) ← walkByte rest
  let (key, rest) ← walkHalf rest
  let (width, rest) ← walkByte rest
  let (scope, rest) ← walkByte rest
  let (action, rest) ← walkByte rest
  let (actionLine, rest) ← walkByte rest
  let (actionQueue, rest) ← walkByte rest
  let (rewrite, rest) ← walkOpt walkHalf rest
  let (pinned, rest) ← walkByte rest
  let (state, rest) ← walkByte rest
  some ({ index, key, width, scope, action, actionLine, actionQueue, rewrite, pinned, state }, rest)

/-- The parameters of ROUTE_REMOVE: a form byte of 0 is followed by an index, any other by a key (R174). -/
def walkRemove : Walk RawRemove := fun rest => do
  let (form, rest) ← walkByte rest
  if form = 0 then
    let (index, rest) ← walkByte rest
    some (.byIndex index, rest)
  else
    let (key, rest) ← walkHalf rest
    let (width, rest) ← walkByte rest
    let (scope, rest) ← walkByte rest
    some (.byKey form key width scope, rest)

/-- What the walk makes of a payload. -/
inductive Decoded where
  /-- The payload is empty or its first byte is no request code (R152 step 1). -/
  | unknown (code : Option Byte)
  /-- The walk does not account for the payload (R152 step 3). -/
  | badLength (code : Byte)
  /-- A ROUTE_STATE whose operation is neither SUSPEND nor RESUME: refused with the position of its first bad item. -/
  | badParam (code : Byte) (position : Nat)
  /-- A request whose length is right. -/
  | request (i : Instr)
deriving DecidableEq, Repr

/-- The walk is complete only when no byte remains (R174). -/
def walked (code : Byte) (result : Option (Decoded × List Byte)) : Decoded :=
  match result with
  | some (d, []) => d
  | _ => .badLength code

/-- ROUTE_STATE by its operation code (section 10.3); an index outside 0 to 47 is the first bad item. -/
def decodeRouteState (tag index operation : Byte) : Decoded :=
  if operation = 0 then .request (.routeStateSuspend tag index)
  else if operation = 1 then .request (.routeStateResume tag index)
  else .badParam 0x22 (if index.toNat < 48 then 2 else 1)

/-- The payload of a request packet with the tag, by the request table of section 10.3. -/
def decodePayload (tag : Byte) (payload : List Byte) : Decoded :=
  match payload with
  | [] => .unknown none
  | code :: ps =>
    let req (i : Option (Instr × List Byte)) : Decoded := walked code (i.map fun (i, rest) => (.request i, rest))
    match code.toNat with
    | 0x01 => req (some (.openSession tag, ps))
    | 0x02 => req (some (.closeSession tag, ps))
    | 0x03 => req (do let (t, r) ← walkByte ps; some (.cancel tag t, r))
    | 0x04 => req (some (.identify tag, ps))
    | 0x05 => req (some (.resetRequest tag, ps))
    | 0x10 => req (do let (n, r) ← walkByte ps; let (p, r) ← walkPlan r; some (.arm tag n p, r))
    | 0x11 => req (do let (n, r) ← walkByte ps; let (h, r) ← walkByte r; some (.disarm tag n h, r))
    | 0x12 => req (do let (n, r) ← walkByte ps; some (.captureGet tag n, r))
    | 0x18 => req (do let (n, r) ← walkByte ps; let (q, r) ← walkByte r; some (.poolSet tag n q, r))
    | 0x19 => req (some (.poolGet tag, ps))
    | 0x20 => req (do let (x, r) ← walkRoute ps; some (.routeInstall tag x, r))
    | 0x21 => req (do let (x, r) ← walkRemove ps; some (.routeRemove tag x, r))
    | 0x22 => walked code (do
        let (index, r) ← walkByte ps
        let (operation, r) ← walkByte r
        some (decodeRouteState tag index operation, r))
    | 0x23 => req (do let (sc, r) ← walkByte ps; let (f, r) ← walkByte r; some (.routeFlush tag sc f, r))
    | 0x24 => req (do
        let (k, r) ← walkHalf ps
        let (w, r) ← walkByte r
        let (d, r) ← walkByte r
        some (.routeProbe tag k w d, r))
    | 0x25 => req (do let (x, r) ← walkByte ps; some (.routeRead tag x, r))
    | 0x28 => req (do
        let (k, r) ← walkHalf ps
        let (d, r) ← walkByte r
        let (t, r) ← walkByte r
        some (.parkResolve tag k d t, r))
    | 0x29 => req (do let (t, r) ← walkHalf ps; some (.parkSet tag t, r))
    | 0x2A => req (some (.parkList tag, ps))
    | 0x30 => req (do
        let (q, r) ← walkByte ps
        let (m, r) ← walkByte r
        let (w, r) ← walkHalf r
        some (.fetch tag q m w, r))
    | 0x31 => req (do let (q, r) ← walkByte ps; let (ns, r) ← walkNumbers r; some (.release tag q ns, r))
    | 0x32 => req (do let (q, r) ← walkByte ps; let (ns, r) ← walkNumbers r; some (.returnFrames tag q ns, r))
    | 0x33 => req (do
        let (q, r) ← walkByte ps
        let (c, r) ← walkByte r
        let (n, r) ← walkByte r
        some (.queueSet tag q c n, r))
    | 0x34 => req (do let (q, r) ← walkByte ps; some (.queueGet tag q, r))
    | 0x38 => req (do
        let (n, r) ← walkByte ps
        let (count, r) ← walkByte r
        let (data, r) ← walkString count.toNat r
        let (q, r) ← walkHalf r
        let (y, r) ← walkByte r
        some (.transmit tag n data q y, r))
    | 0x39 => req (do let (n, r) ← walkByte ps; some (.flushTx tag n, r))
    | 0x3A => req (do
        let (n, r) ← walkByte ps
        let (c, r) ← walkConfig r
        let (l, r) ← walkHalf r
        some (.lineSet tag n c l, r))
    | 0x3B => req (do let (n, r) ← walkByte ps; some (.lineGet tag n, r))
    | 0x40 => req (do let (q, r) ← walkHalf ps; some (.ackReports tag q, r))
    | 0x41 => req (some (.resendReports tag, ps))
    | 0x42 => req (do
        let (x, r) ← walkByte ps
        let (o, r) ← walkByte r
        let (c, r) ← walkByte r
        some (.stats tag x o c, r))
    | _ => .unknown (some code)

/-! ### The payload of a command -/

/-- An optional item as sent (R172). -/
def OptItem.bytes {n : Nat} (f : BitVec n → List Byte) (o : OptItem (BitVec n)) : List Byte :=
  if o.presence = 0 then [0] else o.presence :: f o.value

def RawPlan.bytes (p : RawPlan) : List Byte :=
  p.startForm :: p.quiet.bytes le16 ++ p.lead.bytes (fun b => [b]) ++ p.trail.bytes (fun b => [b]) ++ p.gap.bytes le16
    ++ p.span.bytes le16 ++ [p.limit, p.errorPolicy, p.again, p.keyOffset, p.keyWidth, p.shortPolicy, p.overflow,
      p.defaultQueue]

def RawConfig.bytes (c : RawConfig) : List Byte :=
  [c.mode, c.rate, c.dataBits, c.parity, c.stopBits, c.duplex, c.domain]

def RawRoute.bytes (x : RawRoute) : List Byte :=
  x.index :: le16 x.key ++ [x.width, x.scope, x.action, x.actionLine, x.actionQueue] ++ x.rewrite.bytes le16
    ++ [x.pinned, x.state]

def RawRemove.bytes : RawRemove → List Byte
  | .byIndex index => [0, index]
  | .byKey form key width scope => form :: le16 key ++ [width, scope]

def RawNumbers.bytes : RawNumbers → List Byte
  | .all => [0xFF]
  | .listed ns => byteOf ns.length :: ns.flatMap le16

/-- The stage that a command of a request stands for; none for other commands and for a request that HL carries out itself. -/
def Instr.stage? : Instr → Option Stage
  | .cancel _ _ stage | .arm _ _ _ stage | .disarm _ _ _ stage | .captureGet _ _ stage | .poolSet _ _ _ stage
  | .poolGet _ stage | .routeInstall _ _ stage | .routeRemove _ _ stage | .routeStateSuspend _ _ stage
  | .routeStateResume _ _ stage | .routeFlush _ _ _ stage | .routeProbe _ _ _ _ stage | .routeRead _ _ stage
  | .parkResolve _ _ _ _ stage | .parkSet _ _ stage | .parkList _ stage | .fetch _ _ _ _ stage | .release _ _ _ stage
  | .returnFrames _ _ _ stage | .queueSet _ _ _ _ stage | .queueGet _ _ stage | .transmit _ _ _ _ _ stage
  | .flushTx _ _ stage | .lineSet _ _ _ _ stage | .lineGet _ _ stage | .ackReports _ _ stage | .resendReports _ stage
  | .stats _ _ _ _ (.request stage) => some stage
  | _ => none

/-- The tag and the payload of the request that a command stands for, with either of its happenings or both. -/
def requestPayload : Instr → Option (Byte × List Byte)
  | .openSession tag .hl => some (tag, [0x01])
  | .closeSession tag => some (tag, [0x02])
  | .cancel tag target _ => some (tag, [0x03, target])
  | .identify tag => some (tag, [0x04])
  | .resetRequest tag => some (tag, [0x05])
  | .arm tag line plan _ => some (tag, 0x10 :: line :: plan.bytes)
  | .disarm tag line how _ => some (tag, [0x11, line, how])
  | .captureGet tag line _ => some (tag, [0x12, line])
  | .poolSet tag line quota _ => some (tag, [0x18, line, quota])
  | .poolGet tag _ => some (tag, [0x19])
  | .routeInstall tag route _ => some (tag, 0x20 :: route.bytes)
  | .routeRemove tag target _ => some (tag, 0x21 :: target.bytes)
  | .routeStateSuspend tag index _ => some (tag, [0x22, index, 0])
  | .routeStateResume tag index _ => some (tag, [0x22, index, 1])
  | .routeFlush tag scope force _ => some (tag, [0x23, scope, force])
  | .routeProbe tag key width domain _ => some (tag, 0x24 :: le16 key ++ [width, domain])
  | .routeRead tag index _ => some (tag, [0x25, index])
  | .parkResolve tag number decision target _ => some (tag, 0x28 :: le16 number ++ [decision, target])
  | .parkSet tag timeout _ => some (tag, 0x29 :: le16 timeout)
  | .parkList tag _ => some (tag, [0x2A])
  | .fetch tag queue max wait _ => some (tag, [0x30, queue, max] ++ le16 wait)
  | .release tag queue numbers _ => some (tag, 0x31 :: queue :: numbers.bytes)
  | .returnFrames tag queue numbers _ => some (tag, 0x32 :: queue :: numbers.bytes)
  | .queueSet tag queue capacity notify _ => some (tag, [0x33, queue, capacity, notify])
  | .queueGet tag queue _ => some (tag, [0x34, queue])
  | .transmit tag line data preQuiet notify _ =>
    some (tag, [0x38, line, byteOf data.length] ++ data ++ le16 preQuiet ++ [notify])
  | .flushTx tag line _ => some (tag, [0x39, line])
  | .lineSet tag line config drainLimit _ => some (tag, 0x3A :: line :: config.bytes ++ le16 drainLimit)
  | .lineGet tag line _ => some (tag, [0x3B, line])
  | .ackReports tag sequence _ => some (tag, 0x40 :: le16 sequence)
  | .resendReports tag _ => some (tag, [0x41])
  | .stats tag selector operand clear (.request _) => some (tag, [0x42, selector, operand, clear])
  | .unknownRequest tag code => some (tag, code.toList)
  | _ => none

/-- The tag and the payload of a request command's packet; none for an event, such as a block's taking of a request. -/
def encodePayload (i : Instr) : Option (Byte × List Byte) :=
  if i.stage? = some .block then none else requestPayload i

end Sys2Proof
end

