-- ==== Sys2Proof/Machine/Flags.lean ====
section
/-! DEFINITION. What is computed from the bits of a character and from a frame's bytes: the status of a received character
(R130), the character sent for a byte (R117), a frame's key and its rewrite (R47, R68), and the loss counters by cause. -/

namespace Sys2Proof.Machine

/-- The status of a received character (00_scope.md, Terms; R130). -/
inductive CharStatus where
  | good | parity | framing
deriving DecidableEq, Repr

/-- The data bits a line uses of a byte: on a line of 7 data bits the 7 low ones (R117, R130). -/
def DataBits.cut (d : DataBits) (b : Byte) : Byte :=
  match d with
  | .seven => b &&& 0x7F
  | .eight => b

/-- The number of ones among the bits of a byte. -/
def ones (b : Byte) : Nat := (List.range 8).countP (fun i => b.getLsbD i)

/-- The parity bit that agrees with the data bits, where the line has one (R117, R129; log 18 for the meaning of EVEN and
ODD). -/
def Parity.bit (p : Parity) (data : Byte) : Option Bool :=
  match p with
  | .noParity => none
  | .even => some (ones data % 2 == 1)
  | .odd => some (ones data % 2 == 0)

/-- What the stop sample makes of a character (R130): nothing yet when every sample was space, else its status. -/
inductive StopSample where
  | allSpace
  | ended (value : Byte) (status : CharStatus)
deriving DecidableEq, Repr

/-- The table of R130. The samples are true for mark. -/
def LineConfig.judge (c : LineConfig) (sampled : Byte) (parityBit stopBit : Bool) : StopSample :=
  let value := c.dataBits.cut sampled
  let expected := c.parity.bit value
  if value = 0 ∧ (expected.isSome → parityBit = false) ∧ stopBit = false then .allSpace
  else if stopBit = false then .ended value .framing
  else if expected.isSome ∧ expected ≠ some parityBit then .ended value .parity
  else .ended value .good

/-- The number of data bits of a character (R129). -/
def DataBits.count : DataBits → Nat
  | .seven => 7
  | .eight => 8

/-- The number of stop bits of a character (R129). -/
def StopBits.count : StopBits → Nat
  | .one => 1
  | .two => 2

/-- The levels of a character's bits on the wire, in the order they are sent: the start bit at space, the data bits least
significant first, the parity bit where the line has one, and the stop bits at mark (R117). -/
def LineConfig.charLevels (c : LineConfig) (b : Byte) : List Bool :=
  false :: (List.range c.dataBits.count).map b.getLsbD ++ (c.parity.bit (c.dataBits.cut b)).toList
    ++ List.replicate c.stopBits.count true

/-- The character sent for a byte in a configuration (R117). -/
def LineConfig.sent (c : LineConfig) (b : Byte) : TxChar := { levels := c.charLevels b, rate := c.rate }

/-- The bits of a character's time on the wire: start, data, parity, stop (R129). -/
def LineConfig.charBits (c : LineConfig) : Nat :=
  1 + c.dataBits.count + (if c.parity = .noParity then 0 else 1) + c.stopBits.count

/-- The key of a frame: the byte at the key offset, or for width 2 that byte as the high part and the next as the low
part; none for a short frame (R47, R68). -/
def keyOf (data : List Byte) (offset : Fin 8) (width : KeyWidth) : Option Half :=
  match width with
  | .one => (data[offset.val]?).map (fun b => (0 : Byte) ++ b)
  | .two => (data[offset.val]?).bind fun hi => (data[offset.val + 1]?).map fun lo => hi ++ lo

/-- A rewrite written over the key bytes (R47). -/
def rewriteKey (data : List Byte) (offset : Fin 8) (width : KeyWidth) (value : Half) : List Byte :=
  match width with
  | .one => data.set offset.val (value.extractLsb' 0 8)
  | .two => (data.set offset.val (value.extractLsb' 8 8)).set (offset.val + 1) (value.extractLsb' 0 8)

end Sys2Proof.Machine
end

