-- ==== Sys2Proof/Machine/Ops.lean ====
section
/-! DEFINITION. The named operations every command is built from: counters and numbers (R3), timers (R1), access to the
blocks' state, claims and frees of slots (R36, R40), raising reports and losses (R162, R167), handing packets to the
outgoing list (R149, R150, R160), and the acceptance of a request (R150, R152). -/

namespace Sys2Proof.Machine

/-! ### Counters and numbers -/

/-- A counter rises by one and saturates (00_scope.md, Counters; R50). -/
def satInc {n : Nat} (c : BitVec n) : BitVec n := if c = BitVec.allOnes n then c else c + 1

/-- A counter rises by `k` and saturates (R31, R65). -/
def satAdd {n : Nat} (c : BitVec n) (k : Nat) : BitVec n :=
  if c.toNat + k < 2 ^ n then c + BitVec.ofNat n k else BitVec.allOnes n

/-- The number after a number of R3: 65535 is followed by 1. -/
def nextNumber (n : Half) : Half := if n = 0xFFFF then 1 else n + 1

/-- The first number from `start` on that is not in use, looking at `fuel` numbers before giving up the search
(R77, R95, R113). -/
def freshNumber (used : List Half) (start : Half) : Nat → Half
  | 0 => start
  | fuel + 1 => if used.contains start then freshNumber used (nextNumber start) fuel else start

/-- The number issued when the numbers `used` are taken and the counter stands at `start`: at most one more number than
those in use is looked at (R77, R95, R113). -/
def issueNumber (used : List Half) (start : Half) : Half := freshNumber used start used.length

/-- One more loss of a cause (R167). -/
def LossCounters.count (c : LossCounters) : LossCause → LossCounters
  | .noSlot => { c with noSlot := satInc c.noSlot }
  | .quota => { c with quota := satInc c.quota }
  | .errorAbort => { c with errorAbort := satInc c.errorAbort }
  | .keyShort => { c with keyShort := satInc c.keyShort }
  | .parkFull => { c with parkFull := satInc c.parkFull }
  | .parkExpired => { c with parkExpired := satInc c.parkExpired }
  | .queueFull => { c with queueFull := satInc c.queueFull }
  | .forwardBlocked => { c with forwardBlocked := satInc c.forwardBlocked }
  | .mirrorNoSlot => { c with mirrorNoSlot := satInc c.mirrorNoSlot }

/-- The counter of a cause. -/
def LossCounters.of (c : LossCounters) : LossCause → Counter
  | .noSlot => c.noSlot
  | .quota => c.quota
  | .errorAbort => c.errorAbort
  | .keyShort => c.keyShort
  | .parkFull => c.parkFull
  | .parkExpired => c.parkExpired
  | .queueFull => c.queueFull
  | .forwardBlocked => c.forwardBlocked
  | .mirrorNoSlot => c.mirrorNoSlot

/-! ### Access to the blocks -/

/-- The Capture Unit of a line changed. -/
def State.modUnit (s : State) (n : LineNo) (f : CaptureUnit → CaptureUnit) : State :=
  { s with units := s.units.set n (f (s.unit n)) }

/-- The Line Port of a line changed. -/
def State.modPort (s : State) (n : LineNo) (f : LinePort → LinePort) : State :=
  { s with ports := s.ports.set n (f (s.port n)) }

/-- A delivery queue changed. -/
def State.modQueue (s : State) (q : QueueNo) (f : DeliveryQueue → DeliveryQueue) : State :=
  { s with queues := s.queues.set q (f (s.queue q)) }

/-- A slot changed. -/
def State.modSlot (s : State) (i : SlotNo) (f : Slot → Slot) : State :=
  { s with pool := { s.pool with slots := s.pool.slots.set i (f (s.slot i)) } }

/-- A place of the Route Table set. -/
def State.setRoute (s : State) (i : RouteNo) (e : Option RouteEntry) : State :=
  { s with re := { s.re with routes := s.re.routes.set i e } }

/-- The resolution counters changed. -/
def State.modResolution (s : State) (f : ResolutionCounters → ResolutionCounters) : State :=
  { s with re := { s.re with resolution := f s.re.resolution } }

/-- The table counters changed. -/
def State.modTable (s : State) (f : TableCounters → TableCounters) : State :=
  { s with re := { s.re with table := f s.re.table } }

/-! ### Time and timers (R1) -/

/-- A timer started, or restarted, for `n` units of `micros` microseconds (R1). -/
def Timer.start (n micros : Nat) : Timer := { wait := n * micros, grace := micros }

/-- A timer of a time in TU. -/
def tuTimer (t : Half) : Timer := .start t.toNat Config.microsPerTU

/-- A timer of a time in milliseconds. -/
def msTimer (n : Nat) : Timer := .start n Config.microsPerMs

/-- Microseconds pass on a running timer. -/
def Timer.pass (k : Nat) (t : Timer) : Timer := { wait := t.wait - k, grace := t.grace - (k - t.wait) }

/-- The latest moment at which the timer expires, in microseconds from now (R1). -/
def Timer.latest (t : Timer) : Nat := t.wait + t.grace

/-- The timer may expire now: its units have passed (R1). -/
def Timer.due (t : Timer) : Bool := t.wait == 0

def CaptureUnit.pass (k : Nat) (u : CaptureUnit) : CaptureUnit :=
  { u with quiet := u.quiet.map (Timer.pass k), gap := u.gap.map (Timer.pass k), span := u.span.map (Timer.pass k) }

def LinePort.pass (k : Nat) (p : LinePort) : LinePort :=
  { p with preQuiet := p.preQuiet.map (Timer.pass k),
           drain := p.drain.map (fun d => { d with timer := d.timer.map (Timer.pass k) }) }

def DeliveryQueue.pass (k : Nat) (q : DeliveryQueue) : DeliveryQueue :=
  { q with held := q.held.map (fun h => { h with timer := h.timer.pass k }) }

/-- Every element of a fixed run changed alike. -/
def mapVector {α β : Type} {n : Nat} (f : α → β) (v : Vector α n) : Vector β n := ⟨⟨v.toList.map f⟩, by simp⟩

/-- `k` microseconds pass: device time advances and wraps (00_scope.md, Time and timers), and every running timer counts. -/
def State.elapse (k : Nat) (s : State) : State :=
  { s with
    time := s.time + BitVec.ofNat 32 k
    units := mapVector (CaptureUnit.pass k) s.units
    ports := mapVector (LinePort.pass k) s.ports
    queues := mapVector (DeliveryQueue.pass k) s.queues
    re := { s.re with parks := s.re.parks.map (fun r => { r with timer := r.timer.pass k }) }
    hl := { s.hl with gapTimer := s.hl.gapTimer.map (Timer.pass k) } }

/-! ### The Frame Pool (R34 to R41) -/

/-- The number of FREE slots. -/
def State.freeSlots (s : State) : Nat := s.pool.slots.toList.countP (fun x => x.state == .free)

/-- The charge of a line or of the host: the number of slots charged to it (R34). -/
def State.charge (s : State) (o : Owner) : Nat := s.pool.slots.toList.countP (fun x => x.owner == some o)

/-- The quota of a line, or the host quota (R35). -/
def State.quotaOf (s : State) : Owner → Nat
  | .line n => s.pool.quotas[n]
  | .host => Config.hostQuota

/-- The FREE slot the next grant takes; which one makes no difference (R36, log 8). -/
def State.firstFree (s : State) : Option SlotNo :=
  (List.finRange 128).find? (fun i => (s.slot i).state == .free)

/-- Who claims a slot (R44). -/
inductive Claimant where
  | capture | mirror | transmit
deriving DecidableEq, Repr

/-- FP's answer to a claim (R36). -/
inductive Claim where
  | granted (i : SlotNo)
  | quota
  | noSlot
deriving DecidableEq, Repr

/-- The pool counters after a grant (R44). -/
def PoolCounters.grant (c : PoolCounters) (who : Claimant) (nowFree : Nat) : PoolCounters :=
  let c := { c with leastFree := min c.leastFree nowFree }
  match who with
  | .capture => { c with captureGranted := satInc c.captureGranted }
  | .mirror => { c with mirrorGranted := satInc c.mirrorGranted }
  | .transmit => { c with transmitGranted := satInc c.transmitGranted }

/-- A claim (R36): the quota is tested first, then the free count; a granted slot takes its charge and what the claimant
puts into it. -/
def State.claim (s : State) (who : Claimant) (owner : Owner) (fill : Slot) : Claim × State :=
  if s.charge owner < s.quotaOf owner then
    match s.firstFree with
    | none =>
      (.noSlot, { s with pool := { s.pool with counters :=
        { s.pool.counters with refusedNoSlot := satInc s.pool.counters.refusedNoSlot } } })
    | some i =>
      (.granted i, { s with pool := { s.pool with
        slots := s.pool.slots.set i { fill with owner := some owner }
        counters := s.pool.counters.grant who (s.freeSlots - 1) } })
  else
    (.quota, { s with pool := { s.pool with counters :=
      { s.pool.counters with refusedQuota := satInc s.pool.counters.refusedQuota } } })

/-- A free (R40): the slot becomes FREE, its charge is removed and the slots-freed counter rises. -/
def State.freeSlot (s : State) (i : SlotNo) : State :=
  { s with pool := { s.pool with
    slots := s.pool.slots.set i {}
    counters := { s.pool.counters with freed := satInc s.pool.counters.freed } } }

/-- A slot changes state under R33. -/
def State.slotTo (s : State) (i : SlotNo) (st : SlotState) : State := s.modSlot i (fun x => { x with state := st })

/-- A slot's frame record changed. -/
def State.modRecord (s : State) (i : SlotNo) (f : FrameRecord → FrameRecord) : State :=
  s.modSlot i (fun x => { x with record := f x.record })

/-! ### Reports and losses raised (R161, R162, R167) -/

/-- A block raises a report; RU takes it in a happening of its own (R161). -/
def State.raise (s : State) (src : Source) (r : Report) : State :=
  { s with ru := { s.ru with inbox := s.ru.inbox ++ [(src, .report r)] } }

/-- A block hands a loss over to RU and to the Line Port of the line; each takes it in a happening of its own (R167). -/
def State.lose (s : State) (src : Source) (cause : LossCause) (line : LineNo) : State :=
  { s with ru := { s.ru with inbox := s.ru.inbox ++ [(src, .loss cause line)] } }

/-! ### The outgoing list (R149, R150, R160) -/

/-- A packet joins the tail of the outgoing list, where it waits until the transmitter begins it (R160, log 11). -/
def State.hand (s : State) (p : OutPacket) : State := { s with hl := { s.hl with waiting := s.hl.waiting ++ [p] } }

/-- The packet of the reply to a request (R145, R177). -/
def replyPacket (tag code : Byte) (status : Status) (results : List Byte) : OutPacket :=
  { kind := .reply, tag := tag, payload := code :: status.code :: results }

/-- The slot of the request with the tag is freed (R151). -/
def State.freeTag (s : State) (tag : Byte) : State :=
  { s with hl := { s.hl with slots := s.hl.slots.filter (fun r => r.tag != tag) } }

/-- A packet that answers a request joins the outgoing list, and the request's slot is freed (R151, R160). -/
def State.joinReply (s : State) (p : OutPacket) : State := (s.freeTag p.tag).hand p

/-- HL itself answers the request with the tag (R151). -/
def State.reply (s : State) (tag code : Byte) (status : Status) (results : List Byte) : State :=
  s.joinReply (replyPacket tag code status results)

/-- A block hands a packet to HL, which takes it in a happening of its own (the list at the head of 08_the_host_link.md). -/
def State.handToHL (s : State) (p : OutPacket) : State := { s with hl := { s.hl with incoming := s.hl.incoming ++ [p] } }

/-- A block answers the request with the tag: it hands the reply to HL, and the request's slot is held until HL has taken the
reply (R151, R153). -/
def State.answer (s : State) (tag code : Byte) (status : Status) (results : List Byte) : State :=
  s.handToHL (replyPacket tag code status results)

/-- A slot-free refusal; only one waits at a time (R150). -/
def State.refuse (s : State) (tag code : Byte) (status : Status) : State :=
  if s.hl.waiting.any (fun p => p.kind == .refusal) then
    { s with hl := { s.hl with counters :=
      { s.hl.counters with refusalsNotSent := satInc s.hl.counters.refusalsNotSent } } }
  else s.hand { kind := .refusal, tag := tag, payload := [code, status.code] }

/-- A notice of a discarded packet; only one waits at a time, and those not queued are counted (R149). -/
def State.notice (s : State) (cause : DiscardCause) : State :=
  if s.hl.waiting.any (fun p => p.kind == .notice) then
    { s with hl := { s.hl with
      noticesUnsent := satInc s.hl.noticesUnsent
      counters := { s.hl.counters with noticesNotSent := satInc s.hl.counters.noticesNotSent } } }
  else
    let packet : OutPacket := { kind := .notice, tag := 0, payload := cause.code :: le16 s.hl.noticesUnsent }
    ({ s with hl := { s.hl with noticesUnsent := 0 } } : State).hand packet

/-- RU hands a copy of a report to HL for sending (R160). -/
def State.handReport (s : State) (r : QueuedReport) : State :=
  s.handToHL { kind := .report r.sequence, tag := 0, payload := r.payload }

/-- HL takes a packet that a block has handed to it: a reply joins the outgoing list and frees its request's slot (R151); a
report copy joins it too, unless a copy with its sequence number waits there unbegun, which stays in its place (R160). -/
def State.joinPacket (s : State) (p : OutPacket) : State :=
  match p.kind with
  | .report _ => if s.hl.waiting.any (fun x => x.kind == p.kind) then s else s.hand p
  | _ => s.joinReply p

/-- HL takes the first packet that waits for it. -/
def State.takeIncoming (s : State) : State :=
  match s.hl.incoming with
  | [] => s
  | p :: rest => ({ s with hl := { s.hl with incoming := rest } } : State).joinPacket p

/-- RU has removed reports from the Report Queue: the copies of them that the transmitter has not begun leave the outgoing list
(R155, R164), and those that have not reached HL yet will be dropped when they do (R160), and so are dropped here. -/
def State.dropCopies (s : State) (gone : OutPacket → Bool) : State :=
  { s with hl := { s.hl with
    waiting := s.hl.waiting.filter (fun p => !gone p), incoming := s.hl.incoming.filter (fun p => !gone p) } }

/-! ### Requests (R150 to R152) -/

/-- What the checks of a request's payload say: its parameters, BAD_LENGTH, or BAD_PARAM with a position (R152, R174). -/
inductive ParamError where
  | badLength
  | badParam (position : Nat)
deriving DecidableEq, Repr

abbrev Checked (α : Type) := Except ParamError α

/-- The receiver after a complete packet: HUNT_SYNC, nothing kept, the gap timer stopped (R146). -/
def State.packetDone (s : State) : State :=
  { s with hl := { s.hl with rx := .huntSync, kept := [], gapTimer := none } }

/-- A request packet that passes R147 is taken by the request slots (R147, R150): the requests-taken counter rises; tag 0,
a tag in use and four occupied slots are refused without a slot; else the request takes a slot and goes on. While HL
ignores its input no packet is taken (R158). -/
def State.takeRequest (s : State) (tag code : Byte) (accepted : State → State) : State :=
  if s.hl.ignoring then s
  else
    let s := s.packetDone
    let s := { s with hl := { s.hl with counters :=
      { s.hl.counters with requestsTaken := satInc s.hl.counters.requestsTaken } } }
    if tag = 0 then s.refuse 0 code .badTag
    else if s.hl.slots.any (fun r => r.tag == tag) then s.refuse tag code .tagInUse
    else if Config.requestSlots ≤ s.hl.slots.length then s.refuse tag code .busy
    else accepted { s with hl := { s.hl with slots := s.hl.slots ++ [⟨tag, code⟩] } }

/-- A request with a code of the part (R152): the session check, where the code needs one, then the length and range
checks, then the request is carried out. -/
def State.request {α : Type} (s : State) (tag code : Byte) (needsSession : Bool) (params : Checked α)
    (carryOut : α → State → State) : State :=
  s.takeRequest tag code fun s =>
    if needsSession && s.hl.session == .closed then s.reply tag code .noSession []
    else
      match params with
      | .error .badLength => s.reply tag code .badLength []
      | .error (.badParam position) => s.reply tag code .badParam [byteOf position]
      | .ok a => carryOut a s

/-! ### Hand-over to the blocks (R153) -/

/-- RU has yet to take the session open of an OPEN (R154). -/
def State.openAwaitsRU (s : State) : Bool := s.hl.opening.any (fun o => !o.reportsTaken)

/-- RE has yet to take the OPEN whose session open is under way (R154). -/
def State.openAwaitsRE (s : State) : Bool := s.hl.opening.any (fun o => o.parked.isNone)

/-- An OPEN waits at the block: RU's session open or RE's count of the parked frames (R154). -/
def State.openAwaits (s : State) : Block → Bool
  | .ru => s.openAwaitsRU
  | .re => s.openAwaitsRE
  | _ => false

/-- A request waits at the block. -/
def State.awaited (s : State) (b : Block) : Bool := s.hl.handed.any (fun x => x.1 == b)

/-- The block has taken everything that HL has handed it but for a session end. An OPEN that waits there was handed to it before
any request that does: HL carries it out once every block has taken what was handed to it before (R155). -/
def State.nothingAhead (s : State) (b : Block) : Bool := !s.awaited b && !s.openAwaits b

/-- HL hands a request to a block (R153). -/
def State.handOver (s : State) (b : Block) (i : Instr) : State :=
  { s with hl := { s.hl with handed := s.hl.handed ++ [(b, i)] } }

/-- HL hands an accepted request to a block (R153); where the command stands for the block's happening too, the block takes it
at once unless something that HL handed it before waits there. -/
def State.handTo (s : State) (b : Block) (i : Instr) (both : Bool) (carryOut : State → State) : State :=
  if both && s.nothingAhead b then carryOut s else s.handOver b i

/-- The block that a request waits at, if it is the next that the block takes (R153). -/
def State.nextAt (s : State) (i : Instr) : Option Block :=
  match s.hl.handed.find? (fun x => x.2 == i) with
  | none => none
  | some (b, _) =>
    if (s.hl.handed.find? (fun x => x.1 == b)).any (fun x => x.2 == i) && !s.openAwaits b then some b else none

/-- A block takes a request that HL has handed it, and carries it out; nothing when the request is not the next there
(log 2). -/
def State.takeHanded (s : State) (i : Instr) (carryOut : Block → State → State) : State :=
  match s.nextAt i with
  | none => s
  | some b => carryOut b { s with hl := { s.hl with handed := s.hl.handed.erase (b, i) } }

/-- A request that a block owns (R152, R153), `i` as HL hands it over: HL accepts and validates it and hands it to its owner,
or the owner takes it, or both in a row. -/
def State.blockRequest {α : Type} (s : State) (stage : Stage) (i : Instr) (tag code : Byte) (params : Checked α)
    (owner : α → Block) (carryOut : α → State → State) : State :=
  match stage with
  | .whole => s.request tag code true params fun a s => s.handTo (owner a) i true (carryOut a)
  | .accept => s.request tag code true params fun a s => s.handTo (owner a) i false (carryOut a)
  | .block =>
    match params with
    | .ok a => s.takeHanded i fun _ => carryOut a
    | .error _ => s

end Sys2Proof.Machine
end

