-- ==== Sys2Proof/Machine/Operands.lean ====
section
/-! DEFINITION. The range check of R152 step 4 and R174: each request's items are tested in position order, and the first
that fails names its position. What passes is the request's parameters with their types. -/

namespace Sys2Proof.Machine

/-- A refusal with the position of the item (R152). -/
def badAt {α : Type} (position : Nat) : Checked α := .error (.badParam position)

/-- An item that must satisfy a test. -/
def checkThat (position : Nat) (ok : Bool) : Checked Unit := if ok then .ok () else badAt position

/-- A numbered place 0 to n - 1. -/
def checkFin (n position : Nat) (b : Byte) : Checked (Fin n) :=
  if h : b.toNat < n then .ok ⟨b.toNat, h⟩ else badAt position

/-- A set-or-clear flag. -/
def checkFlag (position : Nat) (b : Byte) : Checked Bool :=
  if b = 0 then .ok false else if b = 1 then .ok true else badAt position

/-- A code of an enumerated value. -/
def checkCode {α : Type} (position : Nat) (ofCode : Byte → Option α) (b : Byte) : Checked α :=
  match ofCode b with
  | some a => .ok a
  | none => badAt position

/-- An optional item: a presence byte of 0 or 1, and the value's own test where present (R174). -/
def checkOpt {α β : Type} (position : Nat) (o : OptItem α) (value : α → Checked β) : Checked (Option β) :=
  if o.presence = 0 then .ok none
  else if o.presence = 1 then (value o.value).map some
  else badAt position

/-- A time of 1 to 65535 TU. -/
def checkTU (position : Nat) (h : Half) : Checked Half := if h = 0 then badAt position else .ok h

/-! ### Codes read (section 10.3) -/

def StartForm.ofCode (b : Byte) : Option StartForm :=
  match b.toNat with
  | 0 => some .any | 1 => some .quiet | 2 => some .lead | 3 => some .quietLead | 4 => some .brk | 5 => some .brkLead
  | _ => none

def ErrorPolicy.ofCode (b : Byte) : Option ErrorPolicy :=
  match b.toNat with | 0 => some .abort | 1 => some .mark | _ => none

def Again.ofCode (b : Byte) : Option Again :=
  match b.toNat with | 0 => some .once | 1 => some .continuous | _ => none

def KeyWidth.ofCode (b : Byte) : Option KeyWidth :=
  match b.toNat with | 1 => some .one | 2 => some .two | _ => none

def ShortPolicy.ofCode (b : Byte) : Option ShortPolicy :=
  match b.toNat with | 0 => some .discard | 1 => some .default | _ => none

def OverflowPolicy.ofCode (b : Byte) : Option OverflowPolicy :=
  match b.toNat with | 0 => some .drop | 1 => some .default | _ => none

def Mode.ofCode (b : Byte) : Option Mode :=
  match b.toNat with | 0 => some .off | 1 => some .on | _ => none

def Rate.ofCode (b : Byte) : Option Rate :=
  match b.toNat with
  | 0 => some .r1200 | 1 => some .r2400 | 2 => some .r4800 | 3 => some .r9600 | 4 => some .r19200 | 5 => some .r38400
  | 6 => some .r57600 | 7 => some .r115200 | 8 => some .r230400 | 9 => some .r460800 | 10 => some .r921600
  | _ => none

def DataBits.ofCode (b : Byte) : Option DataBits :=
  match b.toNat with | 7 => some .seven | 8 => some .eight | _ => none

def Parity.ofCode (b : Byte) : Option Parity :=
  match b.toNat with | 0 => some .noParity | 1 => some .even | 2 => some .odd | _ => none

def StopBits.ofCode (b : Byte) : Option StopBits :=
  match b.toNat with | 1 => some .one | 2 => some .two | _ => none

def Duplex.ofCode (b : Byte) : Option Duplex :=
  match b.toNat with | 0 => some .full | 1 => some .half | _ => none

/-- Domain 0 to 15 or 16 for SHARED; 17 (ALL) is no scope of an entry (section 10.3, R174). -/
def Scope.ofCode (b : Byte) : Option Scope :=
  if h : b.toNat < 16 then some (.domain ⟨b.toNat, h⟩) else if b = 16 then some .shared else none

/-- The scope of a ROUTE_FLUSH (R59). -/
inductive FlushScope where
  | only (scope : Scope)
  | all
deriving DecidableEq, Repr

def FlushScope.ofCode (b : Byte) : Option FlushScope :=
  if b = 17 then some .all else (Scope.ofCode b).map .only

/-- The initial state of an install: ACTIVE or SUSPENDED (R51). -/
def EntryState.ofCode (b : Byte) : Option EntryState :=
  match b.toNat with | 1 => some .active | 2 => some .suspended | _ => none

/-- The partial parameter of DISARM (R25). -/
inductive Partial where
  | keep | drop
deriving DecidableEq, Repr

def Partial.ofCode (b : Byte) : Option Partial :=
  match b.toNat with | 0 => some .keep | 1 => some .drop | _ => none

/-! ### Parameters by request -/

/-- The line at position 1. -/
def checkLine (b : Byte) : Checked LineNo := checkFin 8 1 b

/-- ARM: the line and the capture plan record (R5 step 1, R175). -/
def checkArm (line : Byte) (p : RawPlan) : Checked (LineNo × Plan) := do
  let n ← checkLine line
  let startForm ← checkCode 2 StartForm.ofCode p.startForm
  let quiet ← checkOpt 3 p.quiet (checkTU 3)
  let lead ← checkOpt 4 p.lead .ok
  let trail ← checkOpt 5 p.trail .ok
  let gap ← checkOpt 6 p.gap (checkTU 6)
  let span ← checkOpt 7 p.span (checkTU 7)
  checkThat 8 (p.limit != 0)
  let errorPolicy ← checkCode 9 ErrorPolicy.ofCode p.errorPolicy
  let again ← checkCode 10 Again.ofCode p.again
  let keyOffset ← checkFin 8 11 p.keyOffset
  let keyWidth ← checkCode 12 KeyWidth.ofCode p.keyWidth
  let shortPolicy ← checkCode 13 ShortPolicy.ofCode p.shortPolicy
  let overflow ← checkCode 14 OverflowPolicy.ofCode p.overflow
  let defaultQueue ← checkFin 8 15 p.defaultQueue
  .ok (n, { startForm, quiet, lead, trail, gap, span, limit := p.limit, errorPolicy, again, keyOffset, keyWidth,
            shortPolicy, overflow, defaultQueue })

/-- DISARM (R25). -/
def checkDisarm (line how : Byte) : Checked (LineNo × Partial) := do
  let n ← checkLine line
  let h ← checkCode 2 Partial.ofCode how
  .ok (n, h)

/-- POOL_SET (R42): the quota is 1 to 128. -/
def checkPoolSet (line quota : Byte) : Checked (LineNo × Nat) := do
  let n ← checkLine line
  checkThat 2 (decide (1 ≤ quota.toNat ∧ quota.toNat ≤ 128))
  .ok (n, quota.toNat)

/-- The parameters of ROUTE_INSTALL: index absent for AUTO (R51, R52). -/
structure InstallParams where
  index : Option RouteNo
  key : Half
  width : KeyWidth
  scope : Scope
  action : Action
  rewrite : Option Half
  pinned : Bool
  state : EntryState
deriving DecidableEq, Repr

/-- The action with its line and queue bytes at positions 5 to 7; a byte the action does not use must be 0 (section 10.3). -/
def checkAction (code line queue : Byte) : Checked Action :=
  match code.toNat with
  | 0 => do
    checkThat 6 (line == 0)
    let q ← checkFin 8 7 queue
    .ok (.deliver q)
  | 1 => do
    let n ← checkFin 8 6 line
    checkThat 7 (queue == 0)
    .ok (.forward n)
  | 2 => do
    let n ← checkFin 8 6 line
    let q ← checkFin 8 7 queue
    .ok (.mirror n q)
  | 3 => do
    checkThat 6 (line == 0)
    checkThat 7 (queue == 0)
    .ok .discard
  | _ => badAt 5

/-- The index of an install: 0 to 47, or 0xFF for AUTO. -/
def checkInstallIndex (b : Byte) : Checked (Option RouteNo) :=
  if b = 0xFF then .ok none else (checkFin 48 1 b).map some

/-- ROUTE_INSTALL, the cases of R51 that the host link checks. -/
def checkInstall (x : RawRoute) : Checked InstallParams := do
  let index ← checkInstallIndex x.index
  let width ← checkCode 3 KeyWidth.ofCode x.width
  let scope ← checkCode 4 Scope.ofCode x.scope
  let action ← checkAction x.action x.actionLine x.actionQueue
  let rewrite ← checkOpt 8 x.rewrite .ok
  let pinned ← checkFlag 9 x.pinned
  let state ← checkCode 10 EntryState.ofCode x.state
  .ok { index, key := x.key, width, scope, action, rewrite, pinned, state }

/-- What a ROUTE_REMOVE names (R58). -/
inductive RemoveParams where
  | byIndex (index : RouteNo)
  | byKey (key : Half) (width : KeyWidth) (scope : Scope)
deriving DecidableEq, Repr

/-- ROUTE_REMOVE (R58, R174). -/
def checkRemove : RawRemove → Checked RemoveParams
  | .byIndex index => do
    let i ← checkFin 48 2 index
    .ok (.byIndex i)
  | .byKey form key width scope => do
    checkThat 1 (form == 1)
    let w ← checkCode 3 KeyWidth.ofCode width
    let sc ← checkCode 4 Scope.ofCode scope
    .ok (.byKey key w sc)

/-- An index of the Route Table at position 1. -/
def checkIndex (b : Byte) : Checked RouteNo := checkFin 48 1 b

/-- ROUTE_FLUSH (R59). -/
def checkFlush (scope force : Byte) : Checked (FlushScope × Bool) := do
  let sc ← checkCode 1 FlushScope.ofCode scope
  let f ← checkFlag 2 force
  .ok (sc, f)

/-- ROUTE_PROBE (R62). -/
def checkProbe (width domain : Byte) : Checked (KeyWidth × Domain) := do
  let w ← checkCode 2 KeyWidth.ofCode width
  let d ← checkFin 16 3 domain
  .ok (w, d)

/-- A host decision of PARK_RESOLVE (R84). -/
inductive Decision where
  | deliver (queue : QueueNo)
  | forward (line : LineNo)
  | discard
deriving DecidableEq, Repr

/-- PARK_RESOLVE (R84): the target is the queue, the line, or 0 (section 10.3). -/
def checkResolve (number : Half) (decision target : Byte) : Checked Decision := do
  checkThat 1 (number != 0)
  match decision.toNat with
  | 0 => do
    let q ← checkFin 8 3 target
    .ok (.deliver q)
  | 1 => do
    let n ← checkFin 8 3 target
    .ok (.forward n)
  | 2 => do
    checkThat 3 (target == 0)
    .ok .discard
  | _ => badAt 2

/-- PARK_SET (R89): 1 to 65535 ms. -/
def checkParkSet (timeout : Half) : Checked Half := if timeout = 0 then badAt 1 else .ok timeout

/-- FETCH (R99): max 1 to 8, wait 0 to 30000 ms. -/
def checkFetch (queue max : Byte) (wait : Half) : Checked (QueueNo × Nat × Nat) := do
  let q ← checkFin 8 1 queue
  checkThat 2 (decide (1 ≤ max.toNat ∧ max.toNat ≤ 8))
  checkThat 3 (decide (wait.toNat ≤ 30000))
  .ok (q, max.toNat, wait.toNat)

/-- Delivery numbers must not be 0; the first at position 3 (R103, R172). -/
def checkNumbers : Nat → List Half → Checked Unit
  | _, [] => .ok ()
  | position, n :: ns => if n = 0 then badAt position else checkNumbers (position + 1) ns

/-- RELEASE and RETURN (R103): a list of 1 to 8 numbers, or ALL, here absent. -/
def checkRelease (queue : Byte) (numbers : RawNumbers) : Checked (QueueNo × Option (List Half)) := do
  let q ← checkFin 8 1 queue
  match numbers with
  | .all => .ok (q, none)
  | .listed ns => do
    checkThat 2 (decide (1 ≤ ns.length ∧ ns.length ≤ 8))
    checkNumbers 3 ns
    .ok (q, some ns)

/-- QUEUE_SET (R105): capacity 1 to 64. -/
def checkQueueSet (queue capacity notify : Byte) : Checked (QueueNo × Nat × Bool) := do
  let q ← checkFin 8 1 queue
  checkThat 2 (decide (1 ≤ capacity.toNat ∧ capacity.toNat ≤ 64))
  let y ← checkFlag 3 notify
  .ok (q, capacity.toNat, y)

/-- TRANSMIT (R120): the data count, 1 to 255, has position 2, the data 3 (R172). -/
def checkTransmit (line : Byte) (data : List Byte) (notify : Byte) : Checked (LineNo × Bool) := do
  let n ← checkLine line
  checkThat 2 (decide (1 ≤ data.length ∧ data.length ≤ 255))
  let y ← checkFlag 5 notify
  .ok (n, y)

/-- LINE_SET (R133): the configuration at positions 2 to 8, the drain limit 0 to 60000 ms at 9. -/
def checkLineSet (line : Byte) (c : RawConfig) (limit : Half) : Checked (LineNo × LineConfig) := do
  let n ← checkLine line
  let mode ← checkCode 2 Mode.ofCode c.mode
  let rate ← checkCode 3 Rate.ofCode c.rate
  let dataBits ← checkCode 4 DataBits.ofCode c.dataBits
  let parity ← checkCode 5 Parity.ofCode c.parity
  let stopBits ← checkCode 6 StopBits.ofCode c.stopBits
  let duplex ← checkCode 7 Duplex.ofCode c.duplex
  let domain ← checkFin 16 8 c.domain
  checkThat 9 (decide (limit.toNat ≤ 60000))
  .ok (n, { mode, rate, dataBits, parity, stopBits, duplex, domain })

/-- ACK_REPORTS (R164): 1 to 65535. -/
def checkAck (sequence : Half) : Checked Unit := checkThat 1 (sequence != 0)

/-- CANCEL (R157): a tag of 1 to 255. -/
def checkCancel (target : Byte) : Checked Unit := checkThat 1 (target != 0)

/-- The selectors of STATS (R170). -/
inductive Selector where
  | line (n : LineNo)
  | queue (q : QueueNo)
  | losses
  | routes
  | pool
deriving DecidableEq, Repr

def Selector.code : Selector → Byte
  | .line _ => 0 | .queue _ => 1 | .losses => 2 | .routes => 3 | .pool => 4

/-- The operand byte of a selector: the line or queue, 0 for the others (section 10.3). -/
def Selector.operand : Selector → Byte
  | .line n => byteOf n.val | .queue q => byteOf q.val | _ => 0

/-- STATS (R170): the operand of LOSSES, ROUTES and POOL must be 0 (R174). -/
def checkSelector (selector operand : Byte) : Checked Selector :=
  match selector.toNat with
  | 0 => (checkFin 8 2 operand).map .line
  | 1 => (checkFin 8 2 operand).map .queue
  | 2 => (checkThat 2 (operand == 0)).map fun _ => .losses
  | 3 => (checkThat 2 (operand == 0)).map fun _ => .routes
  | 4 => (checkThat 2 (operand == 0)).map fun _ => .pool
  | _ => badAt 1

def checkStats (selector operand clear : Byte) : Checked (Selector × Bool) := do
  let x ← checkSelector selector operand
  let c ← checkFlag 3 clear
  .ok (x, c)

end Sys2Proof.Machine
end

