-- ==== Sys2Proof/Machine/Hunt.lean ====
section
/-! DEFINITION. What happens to a Capture Unit by itself: the hunt states and the quiet timer (R8, R9), the line-sending and
break flags (R29, R131), pausing and resuming (R26, R27). -/

namespace Sys2Proof.Machine

/-- The first hunt state of a start form (R8). -/
def StartForm.firstState : StartForm → CaptureState
  | .any => .huntAny
  | .quiet => .huntQuiet
  | .lead => .huntLead
  | .quietLead => .huntQuiet
  | .brk => .huntBreak
  | .brkLead => .huntBreak

/-- The quiet timer of a plan; a plan with a QUIET form has a quiet time (R5). -/
def Plan.quietTimer (p : Plan) : Timer := tuTimer (p.quiet.getD 0)

/-- A frame or a skip is in progress (R116). -/
def CaptureUnit.busy (u : CaptureUnit) : Bool := u.phase == .collecting || u.phase == .skipping

/-- The quiet timer started or restarted, unless a break is in progress or the line is sending (R9). The break is the one
the unit was handed (R131): DESIGN CHOICE (log 27), a break detected while the line drains and the unit is PAUSED does not
hold back the timer that the resume starts, and its end restarts it. -/
def CaptureUnit.startQuiet (u : CaptureUnit) (p : Plan) : CaptureUnit :=
  { u with quiet := if u.breakInProgress || u.lineSending then none else some p.quietTimer }

/-- The unit enters a hunt state; the quiet timer runs in HUNT_QUIET only, the gap and span timers in none (R8, R9). -/
def CaptureUnit.enter (u : CaptureUnit) (p : Plan) (st : CaptureState) : CaptureUnit :=
  let u := { u with phase := st, quiet := none, gap := none, span := none }
  if st = .huntQuiet then u.startQuiet p else u

/-- The unit begins hunting under a plan (R8). -/
def CaptureUnit.hunt (u : CaptureUnit) (p : Plan) : CaptureUnit :=
  ({ u with plan := some p } : CaptureUnit).enter p p.startForm.firstState

/-- DISARMED: no plan, no staged plan, timers stopped (R24, R25). -/
def CaptureUnit.disarm (u : CaptureUnit) : CaptureUnit :=
  { u with phase := .disarmed, plan := none, staged := none, quiet := none, gap := none, span := none }

/-- A staged plan becomes the current plan (R26). -/
def CaptureUnit.applyStaged (u : CaptureUnit) : CaptureUnit :=
  match u.staged with
  | some p => { u with plan := some p, staged := none }
  | none => u

/-- An armed unit enters the first hunt state of its current plan (R26, R27). -/
def CaptureUnit.rehunt (u : CaptureUnit) : CaptureUnit :=
  match u.plan with
  | some p => u.hunt p
  | none => u

/-- An armed unit enters PAUSED, its timers stopped (R26). -/
def CaptureUnit.pause (u : CaptureUnit) : CaptureUnit :=
  if u.phase = .disarmed then u
  else { u with phase := .paused, quiet := none, gap := none, span := none }

/-- A PAUSED unit resumes when the drain of its line ends (R27). -/
def CaptureUnit.resume (u : CaptureUnit) : CaptureUnit :=
  if u.phase = .paused then u.rehunt else u

/-- SENDING begins on a half-duplex line: the flag is set and the quiet timer stopped (R9, R29). -/
def CaptureUnit.beginSending (u : CaptureUnit) : CaptureUnit := { u with lineSending := true, quiet := none }

/-- In HUNT_QUIET the quiet timer is started (R9, R10). -/
def CaptureUnit.requiet (u : CaptureUnit) : CaptureUnit :=
  if u.phase = .huntQuiet then
    match u.plan with
    | some p => u.startQuiet p
    | none => u
  else u

/-- The line's own transmission ends: the flag is cleared and in HUNT_QUIET the quiet timer starts (R9, R29). -/
def CaptureUnit.endSending (u : CaptureUnit) : CaptureUnit :=
  if u.lineSending then ({ u with lineSending := false } : CaptureUnit).requiet else u

/-- The end of a break the unit was handed: the flag is cleared and in HUNT_QUIET the quiet timer starts (R9, R131). -/
def CaptureUnit.endBreak (u : CaptureUnit) : CaptureUnit := ({ u with breakInProgress := false } : CaptureUnit).requiet

/-- The values a unit takes when its line goes OFF, the third column of R4 (R28). -/
def CaptureUnit.lineOff (u : CaptureUnit) : CaptureUnit :=
  { u.disarm with nextSeq := 1, frame := none, skip := none, lineSending := false }

end Sys2Proof.Machine
end

