-- ==== Sys2Proof/Machine/Timers.lean ====
section
/-! DEFINITION. Timers of the whole part (R1): which run, how far time may pass before one must expire, and what taking an
expiry does. -/

namespace Sys2Proof.Machine

/-- The turn is free: always on a full-duplex line; on a half-duplex line when no frame or skip is in progress (R116). -/
def State.turnFree (s : State) (n : LineNo) : Bool :=
  match (s.port n).config.duplex with
  | .full => true
  | .half => !(s.unit n).busy

/-- The transmitter has yet to take a turn that the end of a frame or skip has freed: it stands between two happenings of
R124 that came together (log 31). -/
def State.turnWaits (s : State) (n : LineNo) : Bool := (s.port n).txState == .waitTurn && s.turnFree n

/-- The running timers, each with its expiry. -/
def State.timers (s : State) : List (Instr × Timer) :=
  s.hl.gapTimer.toList.map (fun t => (.hostGapExpiry 0, t))
    ++ (List.finRange 8).flatMap (fun n =>
      (s.unit n).quiet.toList.map (fun t => (.quietTimerExpiry n 0, t))
        ++ (s.unit n).gap.toList.map (fun t => (.gapTimerExpiry n 0 false, t))
        ++ (s.unit n).span.toList.map (fun t => (.spanTimerExpiry n 0 false, t))
        ++ (s.port n).preQuiet.toList.map (fun t => (.preQuietExpiry n 0, t))
        ++ ((s.port n).drain.bind Drain.timer).toList.map (fun t => (.drainLimitExpiry n 0, t)))
    ++ (List.finRange 8).flatMap (fun q => (s.queue q).held.toList.map (fun h => (.waitTimerExpiry q 0, h.timer)))
    ++ s.re.parks.map (fun r => (.parkTimerExpiry r.number 0, r.timer))

/-- The microseconds that can pass, of `k` wanted: no timer runs past its latest moment (R1), and no time passes before a
turn that waits is taken. -/
def State.room (s : State) (k : Nat) : Nat :=
  if (List.finRange 8).any s.turnWaits then 0 else s.timers.foldl (fun k x => min k x.2.latest) k

/-- Up to `k` microseconds pass. -/
def State.pass (s : State) (k : Nat) : State := s.elapse (s.room k)

/-- The expiry of a timer is taken after `after` microseconds: it acts if the timer then runs and its units have passed. An
expiry that arrives after its timer has stopped or has been restarted has no effect (R20, R123, R141, R148). -/
def State.expire (s : State) (after : Nat) (timer : State → Option Timer) (act : State → State) : State :=
  let s := s.pass after
  if (timer s).any Timer.due then act s else s

/-- The first of the timers that must expire now, by its expiry (log 4). -/
def State.overdue (s : State) : Option Instr := (s.timers.find? (fun x => x.2.latest == 0)).map Prod.fst

end Sys2Proof.Machine
end

