-- ==== Sys2Proof/Machine/Transmitter.lean ====
section
/-! DEFINITION. The transmitter of a Line Port (06_transmission_and_forwarding.md): taking up the head, the turn, sending,
completing, discarding and aborting entries, the end and the cut of a drain (R137, R138), and TRANSMIT, FLUSH_TX,
CHARACTER_SENT, PRE_QUIET_EXPIRY and DRAIN_LIMIT_EXPIRY. -/

namespace Sys2Proof.Machine

/-- The transmitter enters SENDING with the head entry and its first character (R117). On a half-duplex line LDIR is
asserted and the unit's line-sending flag set (R29, R117). -/
def State.enterSending (s : State) (n : LineNo) : State :=
  match (s.port n).txQueue with
  | [] => s
  | e :: _ =>
    let first := (s.slot e.slot).data.head?
    let s := s.slotTo e.slot .sending
    let s := s.modPort n (fun p => { p with
      txState := .sending 0, preQuiet := none, onWire := first.map p.config.sent
      ldir := if p.config.duplex = .half then true else p.ldir })
    if (s.port n).config.duplex = .half then s.modUnit n CaptureUnit.beginSending else s

/-- The transmitter enters WAIT_TURN and tests the turn (R114, R116). -/
def State.enterTurn (s : State) (n : LineNo) : State :=
  if s.turnFree n then s.enterSending n
  else s.modPort n (fun p => { p with txState := .waitTurn, preQuiet := none })

/-- The break in progress counts for the pre-quiet timer: one whose detection was handed on holds the timer until it ends (R115).
Whether one detected while a half-duplex line was sending does so too (R115), or is handed to the timer neither at its
detection nor at its end (R131), is a free value (log 16). -/
def LinePort.breakCounts (p : LinePort) : Bool := !p.breakDeaf || Config.deafBreakCounts

/-- A break in progress holds the pre-quiet timer (R115, log 16). -/
def LinePort.heldByBreak (p : LinePort) : Bool := p.breakInProgress && p.breakCounts

/-- The head of the queue is taken up, or the transmitter is IDLE (R114). The pre-quiet timer is not started while a break
holds it (R115, log 16). -/
def State.takeUp (s : State) (n : LineNo) : State :=
  match (s.port n).txQueue with
  | [] => s.modPort n (fun p => { p with txState := .idle, preQuiet := none })
  | e :: _ =>
    if e.preQuiet = 0 then s.enterTurn n
    else s.modPort n (fun p => { p with
      txState := .waitQuiet, preQuiet := if p.heldByBreak then none else some (tuTimer e.preQuiet) })

/-- The unit's frame or skip has ended: a transmitter in WAIT_TURN enters SENDING if its turn is free (R116). -/
def State.turnFreed (s : State) (n : LineNo) : State :=
  if s.turnWaits n then s.enterSending n else s

/-- An entry joins the tail of the queue, and is taken up if it is the head outside TRAILING (R112, R114). -/
def State.addEntry (s : State) (n : LineNo) (e : TxEntry) : State :=
  let wasEmpty := (s.port n).txQueue.isEmpty
  let s := s.modPort n (fun p => { p with txQueue := p.txQueue ++ [e] })
  if wasEmpty ∧ (s.port n).txState ≠ .trailing then s.takeUp n else s

/-- TX_DONE for a host entry with notify that leaves the queue (R125). -/
def State.txDone (s : State) (n : LineNo) (e : TxEntry) (result : TxResult) : State :=
  match e.origin with
  | .host number true => s.raise (.lp n) (.txDone number n result)
  | _ => s

/-- The transmit counters changed. -/
def State.modTx (s : State) (n : LineNo) (f : TxCounters → TxCounters) : State :=
  s.modPort n (fun p => { p with txCounters := f p.txCounters })

/-- Discarding an entry that is not in SENDING and has left the queue (R119). -/
def State.discardEntry (n : LineNo) (s : State) (e : TxEntry) : State :=
  let s := s.freeSlot e.slot
  let s := s.modTx n (fun c => { c with flushed := satInc c.flushed })
  s.txDone n e .flushed

/-- Every entry not in SENDING is discarded, head first; the result counts them (R119, R121). TRAILING goes on. -/
def State.discardWaiting (s : State) (n : LineNo) : State × Nat :=
  match (s.port n).txState, (s.port n).txQueue with
  | .sending _, e :: rest =>
    (rest.foldl (State.discardEntry n) (s.modPort n (fun p => { p with txQueue := [e] })), rest.length)
  | st, es =>
    let s := s.modPort n (fun p => { p with
      txQueue := [], preQuiet := none, txState := if st = .trailing then .trailing else .idle })
    (es.foldl (State.discardEntry n) s, es.length)

/-- The end of the line's own transmission: LDIR is deasserted and the unit's line-sending flag cleared (R118, R119). -/
def State.endTransmission (s : State) (n : LineNo) : State :=
  (s.modPort n (fun p => { p with ldir := false })).modUnit n CaptureUnit.endSending

/-- The entry in SENDING, if any, is aborted, and every other entry discarded (R119, R134, R138). A character under way
goes on in TRAILING. The result counts the entries aborted and flushed. -/
def State.cutQueue (s : State) (n : LineNo) : State × Nat × Nat :=
  match (s.port n).txState, (s.port n).txQueue with
  | .sending _, e :: rest =>
    let underWay := (s.port n).onWire.isSome
    let s := s.modPort n (fun p => { p with
      txQueue := [], preQuiet := none, txState := if underWay then .trailing else .idle })
    let s := s.freeSlot e.slot
    let s := s.modTx n (fun c => { c with aborted := satInc c.aborted })
    let s := s.txDone n e .aborted
    let s := rest.foldl (State.discardEntry n) s
    (if underWay then s else s.endTransmission n, 1, rest.length)
  | _, _ =>
    let (s, flushed) := s.discardWaiting n
    (s, 0, flushed)

/-! ### The receiver's format (R132) and the end of a drain -/

/-- Whether LRXD is at mark, as far as the commands have told; else the free value (R132, log 9). -/
def State.atMark (s : State) (n : LineNo) : Bool × State :=
  match (s.port n).level with
  | .mark => (true, s)
  | .space => (false, s)
  | .unknown => (Config.freeMark s.freeCount, { s with freeCount := s.freeCount + 1 })

/-- The receiver changes format: a character under way is abandoned, and the receiver enters IDLE at mark, WAIT_MARK at
space (R132). -/
def State.reformat (s : State) (n : LineNo) : State :=
  let (mark, s) := s.atMark n
  s.modPort n (fun p => { p with
    receiver := if mark then .idle else .waitMark
    breakWatch := !mark && !p.breakInProgress
    level := if mark then .mark else .space })

/-- The results of a LINE_SET that was carried out (R133). -/
def State.lineSetResults (s : State) (n : LineNo) (outcome : LineSetOutcome) (aborted flushed : Nat) : List Byte :=
  [byteOf n.val, outcome.code, (s.port n).lineState.code, byteOf aborted, byteOf flushed]

/-- The reply to the LINE_SET that a drain keeps outstanding, if it is still attached (R137 step 5). -/
def State.answerDrain (s : State) (requester : Requester) (status : Status) (results : List Byte) : State :=
  match requester with
  | .attached tag => s.answer tag 0x3A status results
  | .detached => s

/-- A drain ends and the pending configuration is applied: steps 2 to 5 of R137. After a cut the outcome is CUT with the
cut's counts (R138), else DRAINED. -/
def State.endDrain (s : State) (n : LineNo) : State :=
  match (s.port n).drain with
  | none => s
  | some d =>
    let s := s.modPort n (fun p => { p with config := d.pending, drain := none })
    let s := s.reformat n
    let s := s.modUnit n CaptureUnit.resume
    s.answerDrain d.requester .ok
      (if d.cutDone then s.lineSetResults n .cut d.aborted d.flushed else s.lineSetResults n .drained 0 0)

/-- The drain is cut (R138). -/
def State.cutDrain (s : State) (n : LineNo) : State :=
  let (s, aborted, flushed) := s.cutQueue n
  let s := s.modPort n (fun p => { p with
    drain := p.drain.map (fun d => { d with timer := none, cutDone := true, aborted := aborted, flushed := flushed }) })
  if (s.port n).onWire.isNone then s.endDrain n else s

/-- DRAIN_LIMIT_EXPIRY (R138). -/
def execDrainLimitExpiry (n : LineNo) (s : State) (after : Nat := 0) : Host.Outcome State Fault Refusal :=
  .next (s.expire after (fun s => (s.port n).drain.bind Drain.timer) fun s => s.cutDrain n)

/-! ### Sending (R117, R118, R114) -/

/-- The head entry `e` completes (R118). -/
def State.completeEntry (s : State) (n : LineNo) (e : TxEntry) (rest : List TxEntry) : State :=
  let s := s.freeSlot e.slot
  let s := s.modPort n (fun p => { p with
    txQueue := rest, onWire := none, txState := .idle
    txCounters := { p.txCounters with sent := satInc p.txCounters.sent } })
  let s := s.txDone n e .sent
  let s := if rest.isEmpty then s.endDrain n else s.takeUp n
  match (s.port n).txState with
  | .sending _ => s
  | _ => s.endTransmission n

/-- The character that outlived an abort has gone out: TRAILING ends, a head is taken up, and an empty queue ends a drain
(R114, R119, R137, R138). -/
def State.endTrailing (s : State) (n : LineNo) : State :=
  let s := s.modPort n (fun p => { p with onWire := none, txState := .idle })
  let s := s.endTransmission n
  if (s.port n).txQueue.isEmpty then s.endDrain n else s.takeUp n

/-- CHARACTER_SENT as LP takes it (R117, R118, R126). -/
def State.characterSent (s : State) (n : LineNo) : State :=
  match (s.port n).txState, (s.port n).txQueue with
  | .sending k, e :: rest =>
    let s := s.modTx n (fun c => { c with bytesSent := satInc c.bytesSent })
    let data := (s.slot e.slot).data
    if k + 1 < data.length then
      s.modPort n (fun p => { p with txState := .sending (k + 1), onWire := (data[k + 1]?).map p.config.sent })
    else s.completeEntry n e rest
  | .trailing, _ =>
    (s.modTx n (fun c => { c with bytesSent := satInc c.bytesSent })).endTrailing n
  | _, _ => s

/-- CHARACTER_SENT (R117); nothing when no character is going out (log 2). -/
def execCharacterSent (n : LineNo) (s : State) : Host.Outcome State Fault Refusal := .next (s.characterSent n)

/-- PRE_QUIET_EXPIRY (R115): the transmitter enters WAIT_TURN and tests the turn. -/
def execPreQuietExpiry (n : LineNo) (s : State) (after : Nat := 0) : Host.Outcome State Fault Refusal :=
  .next (s.expire after (fun s => (s.port n).preQuiet) fun s =>
    (s.modPort n (fun p => { p with preQuiet := none })).enterTurn n)

/-! ### Entries (R113, R120 to R122) -/

/-- The transmit numbers of the host entries in a queue. -/
def LinePort.hostNumbers (p : LinePort) : List Half :=
  p.txQueue.filterMap (fun e => match e.origin with | .host k _ => some k | .route _ => none)

/-- TRANSMIT as LP takes it (R120). -/
def State.transmit (s : State) (tag : Byte) (n : LineNo) (data : List Byte) (preQuiet : Half) (notify : Bool) : State :=
  match (s.port n).lineState with
  | .off => s.answer tag 0x38 .lineOff []
  | .draining => s.answer tag 0x38 .lineBusy []
  | .active =>
    if Config.txEntries ≤ (s.port n).txQueue.length then s.answer tag 0x38 .txQueueFull []
    else
      match s.claim .transmit .host { state := .txQueued, data := data } with
      | (.quota, s) => s.answer tag 0x38 .hostQuota []
      | (.noSlot, s) => s.answer tag 0x38 .noSlot []
      | (.granted i, s) =>
        let number := issueNumber (s.port n).hostNumbers (s.port n).nextTxNumber
        let s := s.modPort n (fun p => { p with
          nextTxNumber := nextNumber number
          txCounters := { p.txCounters with hostPlaced := satInc p.txCounters.hostPlaced } })
        let s := s.addEntry n { slot := i, origin := .host number notify, preQuiet := preQuiet }
        s.answer tag 0x38 .ok ([byteOf n.val] ++ le16 number ++ [byteOf (s.port n).txQueue.length])

/-- TRANSMIT (R120). -/
def execTransmit (tag line : Byte) (data : List Byte) (preQuiet : Half) (notify : Byte) (s : State)
    (stage : Stage := .whole) : Host.Outcome State Fault Refusal :=
  .next (s.blockRequest stage (.transmit tag line data preQuiet notify) tag 0x38
    (checkTransmit line data notify) (fun x => .lp x.1) fun (n, y) s => s.transmit tag n data preQuiet y)

/-- The entry left in SENDING, as FLUSH_TX reports it (R121, R177). -/
def TxEntry.leftBytes (e : TxEntry) : List Byte :=
  match e.origin with
  | .host number _ => 0 :: le16 number
  | .route (.entry i) => [1, byteOf i.val]
  | .route .hostDecision => [1, 0xFE]

/-- The entry in SENDING. -/
def LinePort.inSending (p : LinePort) : Option TxEntry :=
  match p.txState with
  | .sending _ => p.txQueue.head?
  | _ => none

/-- FLUSH_TX as LP takes it (R121). On a DRAINING line an empty queue with the transmitter IDLE ends the drain, whose
reply goes first (log 14). -/
def State.flushTx (s : State) (tag : Byte) (n : LineNo) : State :=
  let (s, flushed) := s.discardWaiting n
  let left := (s.port n).inSending
  let s := if (s.port n).txQueue.isEmpty ∧ (s.port n).txState = .idle then s.endDrain n else s
  s.answer tag 0x39 .ok (byteOf flushed :: optBytes TxEntry.leftBytes left)

/-- FLUSH_TX (R121). -/
def execFlushTx (tag line : Byte) (s : State) (stage : Stage := .whole) : Host.Outcome State Fault Refusal :=
  .next (s.blockRequest stage (.flushTx tag line) tag 0x39 (checkLine line) .lp
    fun n s => s.flushTx tag n)

/-- RE offers a frame to a line's transmit queue; the answer says whether it was placed (R122). -/
def State.offerForward (s : State) (n : LineNo) (i : SlotNo) (source : RouteSource) : State × Bool :=
  if (s.port n).lineState = .active ∧ (s.port n).txQueue.length < Config.txEntries then
    let s := s.slotTo i .txQueued
    let s := s.modTx n (fun c => { c with forwardedPlaced := satInc c.forwardedPlaced })
    (s.addEntry n { slot := i, origin := .route source, preQuiet := 0 }, true)
  else
    ((s.lose (.lp n) .forwardBlocked (s.slot i).record.line).freeSlot i, false)

end Sys2Proof.Machine
end

