-- ==== Sys2Proof/Machine/Capture.lean ====
section
/-! DEFINITION. Frame capture (01_frame_capture.md): opening, collecting, closing and skipping frames, re-arming, and the
requests ARM, DISARM and CAPTURE_GET with the expiries of the quiet, gap and span timers. -/

namespace Sys2Proof.Machine

/-! ### Ends of a frame or skip (R21 to R24) -/

/-- One more kept frame with the reason (R31). -/
def CaptureCounters.keep (c : CaptureCounters) (r : CloseReason) (length : Nat) : CaptureCounters :=
  let c := { c with bytesKept := satAdd c.bytesKept length }
  match r with
  | .trail => { c with keptTrail := satInc c.keptTrail }
  | .gap => { c with keptGap := satInc c.keptGap }
  | .span => { c with keptSpan := satInc c.keptSpan }
  | .limit => { c with keptLimit := satInc c.keptLimit }
  | .brk => { c with keptBreak := satInc c.keptBreak }
  | .cancelled => { c with keptCancelled := satInc c.keptCancelled }
  | .error | .lost => c

/-- The frame of a unit as handed to RE, with the fields of the plan it was collected under (R21). -/
def Plan.handed (p : Plan) (n : LineNo) (f : FrameInProgress) : HandedFrame :=
  { slot := f.slot, line := n, domain := f.domain, keyOffset := p.keyOffset, keyWidth := p.keyWidth,
    shortPolicy := p.shortPolicy, overflow := p.overflow, defaultQueue := p.defaultQueue }

/-- The record of a frame at its close (R21). -/
def FrameInProgress.record (f : FrameInProgress) (n : LineNo) (r : CloseReason) (now : Time) : FrameRecord :=
  { line := n, sequence := f.sequence, closeReason := some r, errorMarked := decide (0 < f.errorCount),
    errorCount := f.errorCount, openTime := f.openTime, closeTime := now }

/-- A kept close (R21): the record is completed, the frame counted and handed to RE, and the unit gives up the slot. What
the unit does next is the caller's. -/
def State.closeKept (s : State) (n : LineNo) (p : Plan) (f : FrameInProgress) (r : CloseReason) : State :=
  let length := (s.slot f.slot).data.length
  let s := s.modSlot f.slot (fun x => { x with state := .withRE, record := f.record n r s.time })
  let s : State := { s with re := { s.re with handed := s.re.handed ++ [p.handed n f] } }
  s.modUnit n (fun u => { u with
    frame := none, gap := none, span := none, lastClose := some r, counters := u.counters.keep r length })

/-- The unit after a skip end: timers stopped, no skip, last close reason LOST (R23). -/
def CaptureUnit.endSkip (u : CaptureUnit) : CaptureUnit :=
  { u with skip := none, gap := none, span := none, lastClose := some .lost }

/-- Re-arming after a frame or skip ends (R24); `byBreak` says that a break ended it. -/
def State.rearm (s : State) (n : LineNo) (byBreak : Bool) : State :=
  let u := s.unit n
  match u.staged, u.plan with
  | some p, _ => s.modUnit n (fun u => ({ u with staged := none } : CaptureUnit).hunt p)
  | none, some p =>
    match p.again with
    | .continuous =>
      s.modUnit n (fun u =>
        if byBreak ∧ p.startForm = .brk then u.enter p .huntAny
        else if byBreak ∧ p.startForm = .brkLead then u.enter p .huntLead
        else u.hunt p)
    | .once =>
      (s.modUnit n CaptureUnit.disarm).raise (.cu n) (.captureDone n (u.lastClose.getD .lost))
  | none, none => s

/-- A frame closes by its own tests, its timers or a break, and the unit re-arms (R21, R24). -/
def State.closeFrame (s : State) (n : LineNo) (r : CloseReason) : State :=
  match (s.unit n).plan, (s.unit n).frame with
  | some p, some f => (s.closeKept n p f r).rearm n (r == .brk)
  | _, _ => s

/-- An error character under ABORT closes the frame unkept (R22). -/
def State.closeError (s : State) (n : LineNo) : State :=
  match (s.unit n).frame with
  | none => s
  | some f =>
    let s := s.freeSlot f.slot
    let s := s.lose (.cu n) .errorAbort n
    let s := s.modUnit n (fun u => { u with
      frame := none, gap := none, span := none, lastClose := some .error
      counters := { u.counters with aborted := satInc u.counters.aborted } })
    s.rearm n false

/-- A skip ends by its own tests, its timers or a break, and the unit re-arms (R23, R24). -/
def State.closeSkip (s : State) (n : LineNo) (byBreak : Bool) : State :=
  (s.modUnit n CaptureUnit.endSkip).rearm n byBreak

/-! ### Opening a frame (R14 to R16) -/

/-- The gap or span timer of a plan, where it has one (R15). -/
def planTimer (t : Option Half) : Option Timer := t.map tuTimer

/-- A character opens a frame (R14): a sequence number is consumed and a slot claimed. Granted, the unit is COLLECTING with
the character stored (R15); refused, it is SKIPPING and the loss is counted (R16). Either ends at once under a limit of 1. -/
def State.openFrame (s : State) (n : LineNo) (p : Plan) (value : Byte) : State :=
  let sequence := (s.unit n).nextSeq
  let domain := (s.port n).config.domain
  let now := s.time
  match s.claim .capture (.line n) { state := .collecting, data := [value] } with
  | (.granted i, s) =>
    let s := s.modUnit n (fun u => { u with
      phase := .collecting, nextSeq := nextNumber sequence, quiet := none
      frame := some { slot := i, errorCount := 0, openTime := now, domain := domain, sequence := sequence }
      gap := planTimer p.gap, span := planTimer p.span
      counters := { u.counters with opened := satInc u.counters.opened } })
    if p.limit = 1 then s.closeFrame n .limit else s
  | (refusal, s) =>
    let s := s.modUnit n (fun u => { u with
      phase := .skipping, nextSeq := nextNumber sequence, quiet := none
      skip := some { length := 1, sequence := sequence }
      gap := planTimer p.gap, span := planTimer p.span
      counters := { u.counters with skipped := satInc u.counters.skipped } })
    let s := s.lose (.cu n) (match refusal with | .quota => .quota | _ => .noSlot) n
    if p.limit = 1 then s.closeSkip n false else s

/-! ### Characters and breaks handed to the unit -/

/-- A character taken in COLLECTING (R17). -/
def State.collect (s : State) (n : LineNo) (p : Plan) (f : FrameInProgress) (value : Byte) (status : CharStatus) : State :=
  if status ≠ .good ∧ p.errorPolicy = .abort then s.closeError n
  else
    let s := s.modSlot f.slot (fun x => { x with data := x.data ++ [value] })
    let s := s.modUnit n (fun u => { u with
      frame := some { f with errorCount := if status = .good then f.errorCount else f.errorCount + 1 }
      gap := if p.gap.isSome then planTimer p.gap else u.gap })
    if status = .good ∧ p.trail = some value then s.closeFrame n .trail
    else if p.limit.toNat ≤ (s.slot f.slot).data.length then s.closeFrame n .limit
    else s

/-- A character taken in SKIPPING (R23). -/
def State.skipChar (s : State) (n : LineNo) (p : Plan) (k : SkipInProgress) (value : Byte) (status : CharStatus) : State :=
  let s := s.modUnit n (fun u => { u with skip := some { k with length := k.length + 1 } })
  if status ≠ .good ∧ p.errorPolicy = .abort then s.closeSkip n false
  else if status = .good ∧ p.trail = some value then s.closeSkip n false
  else if p.limit.toNat ≤ k.length + 1 then s.closeSkip n false
  else s.modUnit n (fun u => { u with gap := if p.gap.isSome then planTimer p.gap else u.gap })

/-- A character taken in HUNT_ANY (R11). -/
def State.huntAnyChar (s : State) (n : LineNo) (p : Plan) (value : Byte) (status : CharStatus) : State :=
  if status = .good then s.openFrame n p value
  else
    match p.startForm with
    | .quiet => s.modUnit n (fun u => u.enter p .huntQuiet)
    | _ => s

/-- A character taken in HUNT_LEAD (R12): only a GOOD character equal to the lead byte opens a frame. -/
def State.huntLeadChar (s : State) (n : LineNo) (p : Plan) (value : Byte) (status : CharStatus) : State :=
  if status = .good ∧ p.lead = some value then s.openFrame n p value
  else
    match p.startForm with
    | .quietLead => s.modUnit n (fun u => u.enter p .huntQuiet)
    | .brkLead => s.modUnit n (fun u => u.enter p .huntBreak)
    | _ => s

/-- The unit takes a character handed to it (R10 to R13, R17, R23), and a frame or skip that ends frees the turn (R116). -/
def State.unitChar (s : State) (n : LineNo) (value : Byte) (status : CharStatus) : State :=
  match (s.unit n).plan with
  | none => s
  | some p =>
    let s := match (s.unit n).phase with
      | .disarmed | .paused | .huntBreak => s
      | .huntQuiet => s.modUnit n (fun u => u.startQuiet p)
      | .huntAny => s.huntAnyChar n p value status
      | .huntLead => s.huntLeadChar n p value status
      | .collecting =>
        match (s.unit n).frame with
        | some f => s.collect n p f value status
        | none => s
      | .skipping =>
        match (s.unit n).skip with
        | some k => s.skipChar n p k value status
        | none => s
    s.turnFreed n

/-- A break detected while the unit hunts (R10 to R13). -/
def State.huntBreakDetected (s : State) (n : LineNo) (p : Plan) : State :=
  match (s.unit n).phase, p.startForm with
  | .huntQuiet, _ => s.modUnit n (fun u => { u with quiet := none })
  | .huntAny, .quiet => s.modUnit n (fun u => u.enter p .huntQuiet)
  | .huntLead, .quietLead => s.modUnit n (fun u => u.enter p .huntQuiet)
  | .huntBreak, .brk => s.modUnit n (fun u => u.enter p .huntAny)
  | .huntBreak, .brkLead => s.modUnit n (fun u => u.enter p .huntLead)
  | _, _ => s

/-- The unit takes the detection of a break (R9 to R13, R19, R23). -/
def State.unitBreak (s : State) (n : LineNo) : State :=
  let s := s.modUnit n (fun u => { u with breakInProgress := true })
  match (s.unit n).plan with
  | none => s
  | some p =>
    let s := match (s.unit n).phase with
      | .collecting => s.closeFrame n .brk
      | .skipping => s.closeSkip n true
      | _ => s.huntBreakDetected n p
    s.turnFreed n

/-! ### Timer expiries -/

/-- QUIET_TIMER_EXPIRY (R9, R10). -/
def execQuietTimerExpiry (n : LineNo) (s : State) (after : Nat := 0) : Host.Outcome State Fault Refusal :=
  .next (s.expire after (fun s => (s.unit n).quiet) fun s => s.modUnit n (fun u =>
    match u.plan with
    | some p => u.enter p (if p.startForm = .quietLead then .huntLead else .huntAny)
    | none => { u with quiet := none }))

/-- The expiry of the gap or span timer closes the frame with the reason, or ends the skip (R18, R23). That frees the turn
(R116), which the transmitter takes at once unless the end of a received character may come first (R124, log 31). -/
def State.unitTimeout (s : State) (n : LineNo) (r : CloseReason) (turnWaits : Bool) : State :=
  let s := s.modUnit n (fun u => { u with gap := none, span := none })
  let s := match (s.unit n).phase with
    | .collecting => s.closeFrame n r
    | .skipping => s.closeSkip n false
    | _ => s
  if turnWaits then s else s.turnFreed n

/-- GAP_TIMER_EXPIRY (R18). -/
def execGapTimerExpiry (n : LineNo) (s : State) (after : Nat := 0) (turnWaits : Bool := false) :
    Host.Outcome State Fault Refusal :=
  .next (s.expire after (fun s => (s.unit n).gap) fun s => s.unitTimeout n .gap turnWaits)

/-- SPAN_TIMER_EXPIRY (R18). -/
def execSpanTimerExpiry (n : LineNo) (s : State) (after : Nat := 0) (turnWaits : Bool := false) :
    Host.Outcome State Fault Refusal :=
  .next (s.expire after (fun s => (s.unit n).span) fun s => s.unitTimeout n .span turnWaits)

/-! ### ARM (R5 to R7) -/

/-- The start form takes a quiet time (R5 step 4). -/
def StartForm.wantsQuiet (f : StartForm) : Bool := f == .quiet || f == .quietLead

/-- The start form takes a lead byte (R5 step 5). -/
def StartForm.wantsLead (f : StartForm) : Bool := f == .lead || f == .quietLead || f == .brkLead

/-- The presence rules of a plan, steps 4 to 6 of R5, with the position a refusal names. -/
def Plan.misfit (p : Plan) : Option Nat :=
  if p.quiet.isSome != p.startForm.wantsQuiet then some 3
  else if p.lead.isSome != p.startForm.wantsLead then some 4
  else if p.limit.toNat < p.keyOffset.val + p.keyWidth.bytes then some 12
  else none

/-- ARM as the unit takes it (R5 steps 2 to 6, R6, R7). -/
def State.arm (s : State) (tag : Byte) (n : LineNo) (p : Plan) : State :=
  match (s.port n).lineState with
  | .off => s.answer tag 0x10 .lineOff []
  | .draining => s.answer tag 0x10 .lineBusy []
  | .active =>
    match p.misfit with
    | some position => s.answer tag 0x10 .badParam [byteOf position]
    | none =>
      if (s.unit n).busy then (s.modUnit n (fun u => { u with staged := some p })).answer tag 0x10 .staged []
      else (s.modUnit n (fun u => u.hunt p)).answer tag 0x10 .applied []

/-- ARM (R5 to R7). -/
def execArm (tag line : Byte) (plan : RawPlan) (s : State) (stage : Stage := .whole) : Host.Outcome State Fault Refusal :=
  .next (s.blockRequest stage (.arm tag line plan) tag 0x10 (checkArm line plan) (fun x => .cu x.1)
    fun (n, p) s => s.arm tag n p)

/-! ### DISARM (R25) -/

/-- What DISARM found (R25). -/
inductive DisarmResult where
  | none | kept | dropped | skipEnded
deriving DecidableEq, Repr

def DisarmResult.code : DisarmResult → Byte
  | .none => 0 | .kept => 1 | .dropped => 2 | .skipEnded => 3

/-- The end of the frame or skip a DISARM finds (R25). -/
def State.disarmFrame (s : State) (n : LineNo) (how : Partial) : State × DisarmResult :=
  match (s.unit n).phase, (s.unit n).plan, (s.unit n).frame with
  | .collecting, some p, some f =>
    match how with
    | .keep => (s.closeKept n p f .cancelled, .kept)
    | .drop => ((s.freeSlot f.slot).modUnit n (fun u => { u with frame := none }), .dropped)
  | .skipping, _, _ => (s.modUnit n CaptureUnit.endSkip, .skipEnded)
  | _, _, _ => (s, .none)

/-- DISARM as the unit takes it (R25). -/
def State.disarm (s : State) (tag : Byte) (n : LineNo) (how : Partial) : State :=
  let (s, found) := s.disarmFrame n how
  let s := s.modUnit n CaptureUnit.disarm
  let s := s.turnFreed n
  s.answer tag 0x11 .ok [found.code]

/-- DISARM (R25). -/
def execDisarm (tag line how : Byte) (s : State) (stage : Stage := .whole) : Host.Outcome State Fault Refusal :=
  .next (s.blockRequest stage (.disarm tag line how) tag 0x11 (checkDisarm line how) (fun x => .cu x.1)
    fun (n, h) s => s.disarm tag n h)

/-! ### CAPTURE_GET (R30) -/

/-- The progress item of CAPTURE_GET: length or skip length, error count and sequence (R30, R177). -/
def State.progressBytes (s : State) (u : CaptureUnit) : Option (List Byte) :=
  match u.phase with
  | .collecting => u.frame.map fun f =>
      [byteOf (s.slot f.slot).data.length, byteOf f.errorCount] ++ le16 f.sequence
  | .skipping => u.skip.map fun k => [byteOf k.length, 0] ++ le16 k.sequence
  | _ => none

/-- The results of CAPTURE_GET (R30, R177). -/
def State.captureResults (s : State) (n : LineNo) : List Byte :=
  let u := s.unit n
  [u.phase.code] ++ optBytes (fun p => [p.startForm.code]) u.plan ++ optBytes Plan.record u.plan
    ++ optBytes Plan.record u.staged ++ le16 u.nextSeq ++ optBytes id (s.progressBytes u)
    ++ optBytes (fun r => [r.code]) u.lastClose

/-- CAPTURE_GET (R30). -/
def execCaptureGet (tag line : Byte) (s : State) (stage : Stage := .whole) : Host.Outcome State Fault Refusal :=
  .next (s.blockRequest stage (.captureGet tag line) tag 0x12 (checkLine line) .cu
    fun n s => s.answer tag 0x12 .ok (s.captureResults n))

/-! ### Line changes acting on the unit (R26, R28) -/

/-- Any frame is closed CANCELLED and kept, any skip ends, and a staged plan is applied (R26). -/
def State.unitReconfigured (s : State) (n : LineNo) : State :=
  let s := match (s.unit n).phase, (s.unit n).plan, (s.unit n).frame with
    | .collecting, some p, some f => s.closeKept n p f .cancelled
    | .skipping, _, _ => s.modUnit n CaptureUnit.endSkip
    | _, _, _ => s
  s.modUnit n CaptureUnit.applyStaged

/-- The unit when its line goes OFF: a frame is freed without a loss, a skip ends, and the unit takes its line-OFF values
(R28). -/
def State.unitOff (s : State) (n : LineNo) : State :=
  let s := match (s.unit n).phase, (s.unit n).frame with
    | .collecting, some f => s.freeSlot f.slot
    | .skipping, _ => s.modUnit n CaptureUnit.endSkip
    | _, _ => s
  s.modUnit n CaptureUnit.lineOff

end Sys2Proof.Machine
end

