-- ==== Sys2Proof/Machine/Lines.lean ====
section
/-! DEFINITION. The receiver of a Line Port and its line changes (07_serial_lines.md): characters, breaks, start bits, and
the requests LINE_SET and LINE_GET. -/

namespace Sys2Proof.Machine

/-! ### Handing on (R130, R131) -/

/-- A half-duplex line hands nothing on while its transmitter is in SENDING, or in TRAILING, which the receiver treats as
SENDING (R114, R130). -/
def LinePort.deaf (p : LinePort) : Bool :=
  p.config.duplex == .half && (match p.txState with | .sending _ => true | .trailing => true | _ => false)

/-- The receiver hands characters and detections of breaks to the Capture Unit (R130). -/
def LinePort.handsOn (p : LinePort) : Bool := p.drain.isNone && !p.deaf

/-- In WAIT_QUIET the pre-quiet timer is started for the head entry's full pre-quiet (R115). -/
def LinePort.restartPreQuiet (p : LinePort) : LinePort :=
  if p.txState = .waitQuiet then { p with preQuiet := p.txQueue.head?.map (fun e => tuTimer e.preQuiet) } else p

/-- A character is counted by its status (R143). -/
def ReceiverCounters.count (c : ReceiverCounters) (status : CharStatus) : ReceiverCounters :=
  let c := { c with characters := satInc c.characters }
  match status with
  | .good => c
  | .parity => { c with parityErrors := satInc c.parityErrors }
  | .framing => { c with framingErrors := satInc c.framingErrors }

/-- A character ends (R130): it is counted, the receiver returns to IDLE, and it is handed to the pre-quiet timer and the
Capture Unit. `level` is what is then known of LRXD. A character that ends at space leaves a space that can still become a
break (R131), up to its return to mark. -/
def State.charEnded (s : State) (n : LineNo) (value : Byte) (status : CharStatus) (level : Level) : State :=
  let handsOn := (s.port n).handsOn
  let s := s.modPort n (fun p => ({ p with
    receiver := .idle, breakWatch := level != .mark, level := level
    rxCounters := p.rxCounters.count status } : LinePort).restartPreQuiet)
  if handsOn then s.unitChar n value status else s

/-- The stop sample of a character (R130). -/
def State.stopSample (s : State) (n : LineNo) (data : Byte) (parityBit stopBit : Bool) : State :=
  match (s.port n).receiver with
  | .receiving =>
    match (s.port n).config.judge data parityBit stopBit with
    | .allSpace => s.modPort n (fun p => { p with receiver := .candidate, level := .space })
    | .ended value status =>
      s.charEnded n value status (match status with | .framing => .unknown | _ => .mark)
  | _ => s

/-- CHARACTER_RECEIVED (R130); nothing when no character is under way (log 2). -/
def execCharacterReceived (n : LineNo) (data : Byte) (parityBit stopBit : Bool) (s : State) :
    Host.Outcome State Fault Refusal := .next (s.stopSample n data parityBit stopBit)

/-- CANDIDATE_FRAMING_CHARACTER (R131): a FRAMING character of value 0, at the return to mark. -/
def execCandidateFraming (n : LineNo) (s : State) : Host.Outcome State Fault Refusal :=
  .next (match (s.port n).receiver with
    | .candidate => s.charEnded n 0 .framing .mark
    | _ => s)

/-! ### Breaks (R131) -/

/-- A space of one character time completes a break (R131): from CANDIDATE; in IDLE from a space that began inside a character
which ended FRAMING; in WAIT_MARK from a space at which the receiver was started (R132, log 13). -/
def LinePort.awaitsBreak (p : LinePort) : Bool :=
  match p.receiver with
  | .candidate => true
  | .idle => p.breakWatch
  | .waitMark => p.breakWatch
  | _ => false

/-- The Line Port at the detection of a break (R131, R115, R143). -/
def LinePort.detectBreak (p : LinePort) : LinePort :=
  { p with
    breakInProgress := true, breakWatch := false, breakDeaf := p.deaf, receiver := .waitMark, level := .space
    rxCounters := { p.rxCounters with breaks := satInc p.rxCounters.breaks }
    preQuiet := none }

/-- BREAK_DETECTED as LP takes it (R131). -/
def State.detectBreak (s : State) (n : LineNo) : State :=
  let handsOn := (s.port n).handsOn
  let s := s.modPort n LinePort.detectBreak
  if handsOn then s.unitBreak n else s

/-- BREAK_DETECTED (R131); nothing when no space is being measured (log 2). -/
def execBreakDetected (n : LineNo) (s : State) : Host.Outcome State Fault Refusal :=
  .next (if (s.port n).awaitsBreak then s.detectBreak n else s)

/-- The Line Port when a break in progress ends at the return to mark (R131): a pre-quiet timer that the break held starts in
WAIT_QUIET (R115, log 16). On an OFF line the receiver stays STOPPED (R132). -/
def LinePort.endBreak (p : LinePort) : LinePort :=
  let ended : LinePort := { p with
    breakInProgress := false, breakWatch := false, breakDeaf := false, level := .mark
    receiver := if p.receiver = .waitMark then .idle else p.receiver }
  if p.breakCounts then ended.restartPreQuiet else ended

/-- What the Capture Unit makes of the end of a break (R131): it is handed to a unit that was handed the detection, and
otherwise where the receiver hands on and the detection was not made deaf. -/
def CaptureUnit.breakOver (handed : Bool) (u : CaptureUnit) : CaptureUnit :=
  if u.breakInProgress then u.endBreak else if handed then u.requiet else u

/-- BREAK_END as LP takes it (R131). -/
def State.endBreak (s : State) (n : LineNo) : State :=
  let handed := (s.port n).handsOn && !(s.port n).breakDeaf
  (s.modPort n LinePort.endBreak).modUnit n (CaptureUnit.breakOver handed)

/-- BREAK_END (R131); nothing when no break is in progress (log 2). -/
def execBreakEnd (n : LineNo) (s : State) : Host.Outcome State Fault Refusal :=
  .next (if (s.port n).breakInProgress then s.endBreak n else s)

/-! ### Start bits and the return to mark (R130, R132) -/

/-- START_BIT (R130): a start bit, or a glitch that leaves the receiver in IDLE; nothing outside IDLE. -/
def execStartBit (n : LineNo) (glitch : Bool) (s : State) : Host.Outcome State Fault Refusal :=
  .next (if (s.port n).receiver = .idle then
      s.modPort n (fun p =>
        if glitch then { p with breakWatch := false, level := .mark }
        else { p with receiver := .receiving, breakWatch := false, level := .unknown })
    else s)

/-- RETURN_TO_MARK (R132): WAIT_MARK with no break in progress goes to IDLE with no count. In IDLE it ends the space that a
character which ended FRAMING has left (R131, log 13). -/
def execReturnToMark (n : LineNo) (s : State) : Host.Outcome State Fault Refusal :=
  .next (if ((s.port n).receiver = .waitMark ∧ (s.port n).breakInProgress = false)
        ∨ ((s.port n).receiver = .idle ∧ (s.port n).breakWatch = true) then
      s.modPort n (fun p => { p with receiver := .idle, breakWatch := false, level := .mark })
    else s)

/-! ### LINE_SET (R133 to R136) -/

/-- The Line Port of an OFF line switched ON (R134, R132). The receiver waits for RETURN_TO_MARK: DESIGN CHOICE (log 28), that
command stands also for a line that is found at mark as the receiver starts. -/
def LinePort.switchOn (c : LineConfig) (p : LinePort) : LinePort :=
  { p with
    config := c, receiver := .waitMark, breakWatch := true
    level := if p.breakInProgress then .space else .unknown }

/-- The Line Port once its queue has been cut and its line goes OFF (R134 steps 4 and 5, R132). -/
def LinePort.switchOff (c : LineConfig) (p : LinePort) : LinePort :=
  { p with
    config := c, receiver := .stopped, breakWatch := false
    level := if p.breakInProgress then .space else .unknown }

/-- An ACTIVE line is switched OFF (R134). -/
def State.lineOff (s : State) (tag : Byte) (n : LineNo) (c : LineConfig) : State :=
  let (s, aborted, flushed) := (s.unitOff n).cutQueue n
  let s := s.modPort n (LinePort.switchOff c)
  s.answer tag 0x3A .ok (s.lineSetResults n .applied aborted flushed)

/-- A configuration is applied at once on an ACTIVE line with nothing to send (R135). -/
def State.lineApply (s : State) (tag : Byte) (n : LineNo) (c : LineConfig) : State :=
  let s := s.modPort n (fun p => { p with config := c })
  let s := (s.reformat n).unitReconfigured n
  let s := s.modUnit n CaptureUnit.rehunt
  s.answer tag 0x3A .ok (s.lineSetResults n .applied 0 0)

/-- A drain starts (R136); with a drain limit of 0 it is cut at once (R138, log 12). -/
def State.lineDrain (s : State) (tag : Byte) (n : LineNo) (c : LineConfig) (limit : Half) : State :=
  let s := s.modPort n (fun p => { p with
    drain := some { pending := c, limit := limit, timer := if limit = 0 then none else some (msTimer limit.toNat),
                    requester := .attached tag, cutDone := false, aborted := 0, flushed := 0 } })
  let s := (s.unitReconfigured n).modUnit n CaptureUnit.pause
  if limit = 0 then s.cutDrain n else s.turnFreed n

/-- An OFF line is switched ON (R134). A character that outlived the going OFF may still go out: TRAILING, which a half-duplex
line's unit knows as sending (R29, R114, log 19). -/
def State.lineOn (s : State) (n : LineNo) (c : LineConfig) : State :=
  let s := s.modPort n (LinePort.switchOn c)
  if c.duplex = .half ∧ (s.port n).txState = .trailing then s.modUnit n CaptureUnit.beginSending else s

/-- LINE_SET as LP takes it, by the table of R133. -/
def State.lineSet (s : State) (tag : Byte) (n : LineNo) (c : LineConfig) (limit : Half) : State :=
  match (s.port n).lineState, c.mode with
  | .draining, _ => s.answer tag 0x3A .lineBusy []
  | .off, .off =>
    let s := s.modPort n (fun p => { p with config := c })
    s.answer tag 0x3A .ok (s.lineSetResults n .applied 0 0)
  | .off, .on =>
    let s := s.lineOn n c
    s.answer tag 0x3A .ok (s.lineSetResults n .applied 0 0)
  | .active, .off => s.lineOff tag n c
  | .active, .on =>
    if (s.port n).txQueue.isEmpty ∧ (s.port n).onWire = none then s.lineApply tag n c
    else s.lineDrain tag n c limit

/-- LINE_SET (R133). -/
def execLineSet (tag line : Byte) (config : RawConfig) (drainLimit : Half) (s : State) (stage : Stage := .whole) :
    Host.Outcome State Fault Refusal :=
  .next (s.blockRequest stage (.lineSet tag line config drainLimit) tag 0x3A
    (checkLineSet line config drainLimit) (fun x => .lp x.1) fun (n, c) s => s.lineSet tag n c drainLimit)

/-! ### LINE_GET (R142) -/

/-- The drain item of LINE_GET (R142, R177). -/
def Drain.bytes (d : Drain) : List Byte :=
  le16 d.limit ++ [flagByte d.cutDone] ++ (match d.requester with | .attached tag => [0, tag] | .detached => [1, 0])

/-- The results of LINE_GET (R142). -/
def LinePort.getResults (p : LinePort) : List Byte :=
  p.config.record ++ [p.lineState.code] ++ optBytes (fun d => d.pending.record) p.drain ++ optBytes Drain.bytes p.drain
    ++ [flagByte p.breakInProgress, p.txState.code, byteOf p.txQueue.length] ++ p.rxCounters.bytes

/-- LINE_GET (R142). -/
def execLineGet (tag line : Byte) (s : State) (stage : Stage := .whole) : Host.Outcome State Fault Refusal :=
  .next (s.blockRequest stage (.lineGet tag line) tag 0x3B (checkLine line) .lp
    fun n s => s.answer tag 0x3B .ok (s.port n).getResults)

end Sys2Proof.Machine
end

