-- ==== Sys2Proof/Machine/Queues.lean ====
section
/-! DEFINITION. The Queue Manager (05_delivery_queues.md): placing, lending, the held fetch, and the requests FETCH,
RELEASE, RETURN, QUEUE_SET and QUEUE_GET with the expiry of the wait timer. -/

namespace Sys2Proof.Machine

/-- The count of a queue: waiting and lent frames together (R94). -/
def DeliveryQueue.count (q : DeliveryQueue) : Nat := q.waiting.length + q.lent.length

/-- The delivery numbers of the lent frames, in lent-list order. -/
def State.lentNumbers (s : State) (q : QueueNo) : List Half :=
  (s.queue q).lent.map (fun i => (s.slot i).record.deliveryNumber)

/-- The results of a FETCH reply: queue, number of frames, waiting and lent counts, and the frame records (R99, R176). -/
def State.fetchResults (s : State) (q : QueueNo) (frames : List SlotNo) : List Byte :=
  [byteOf q.val, byteOf frames.length, byteOf (s.queue q).waiting.length, byteOf (s.queue q).lent.length]
    ++ frames.flatMap (fun i => (s.slot i).frameBytes)

/-! ### Lending (R95, R100) -/

/-- The head of the waiting list, `i`, is lent under a new delivery number (R95, R100 step 5). -/
def State.lendHead (s : State) (q : QueueNo) (i : SlotNo) (rest : List SlotNo) : State :=
  let number := issueNumber (s.lentNumbers q) (s.queue q).nextNumber
  let s := s.modSlot i (fun x => { x with state := .lent, record := { x.record with deliveryNumber := number } })
  s.modQueue q (fun d => { d with
    waiting := rest, lent := d.lent ++ [i], nextNumber := nextNumber number
    counters := { d.counters with fetched := satInc d.counters.fetched } })

/-- Frames are lent from the head of the waiting list, at most `fuel` of them, while the lent list has room and the records
in the reply, `used` bytes so far, stay within the payload limit (R100). -/
def State.lendLoop (q : QueueNo) : Nat → Nat → List SlotNo → State → List SlotNo × State
  | 0, _, lent, s => (lent, s)
  | fuel + 1, used, lent, s =>
    match (s.queue q).waiting with
    | [] => (lent, s)
    | i :: rest =>
      if Config.lentMax ≤ (s.queue q).lent.length then (lent, s)
      else if Config.fetchRecordBytes < used + (20 + (s.slot i).data.length) then (lent, s)
      else State.lendLoop q fuel (used + (20 + (s.slot i).data.length)) (lent ++ [i]) (s.lendHead q i rest)

/-- Frames are lent for a FETCH with the given max, and its reply is handed to HL (R100). -/
def State.lendReply (s : State) (q : QueueNo) (tag : Byte) (max : Nat) : State :=
  let (frames, s) := State.lendLoop q max 0 [] s
  s.answer tag 0x30 .ok (s.fetchResults q frames)

/-- A held fetch is answered by the waiting frames (R102). -/
def State.answerHeld (s : State) (q : QueueNo) (h : HeldFetch) : State :=
  (s.modQueue q (fun d => { d with held := none })).lendReply q h.tag h.max

/-- A held fetch ends with zero frames (R101). -/
def State.endHeld (s : State) (q : QueueNo) (h : HeldFetch) (status : Status) : State :=
  let s := s.modQueue q (fun d => { d with held := none })
  s.answer h.tag 0x30 status (s.fetchResults q [])

/-! ### Placing (R96, R97) -/

/-- What follows a placement: the held fetch is answered, or QUEUE_READY is raised, or nothing (R97). -/
def State.afterPlacement (s : State) (q : QueueNo) (wasEmpty : Bool) : State :=
  match (s.queue q).held with
  | some h => s.answerHeld q h
  | none =>
    if wasEmpty && (s.queue q).notify && (s.queue q).armed && s.hl.session == .opened then
      (s.raise .qm (.queueReady q (s.queue q).waiting.length)).modQueue q (fun d => { d with armed := false })
    else s

/-- RE offers a frame to a delivery queue; the answer says whether it was placed (R96). -/
def State.place (s : State) (q : QueueNo) (i : SlotNo) : State × Bool :=
  if (s.queue q).count < (s.queue q).capacity then
    let wasEmpty := (s.queue q).waiting.isEmpty
    let s := s.modSlot i (fun x => { x with state := .queued, record := { x.record with deliveryNumber := 0 } })
    let s := s.modQueue q (fun d => { d with
      waiting := d.waiting ++ [i], counters := { d.counters with placed := satInc d.counters.placed } })
    (s.afterPlacement q wasEmpty, true)
  else
    let s := s.lose .qm .queueFull (s.slot i).record.line
    let s := s.freeSlot i
    (s.modQueue q (fun d => { d with counters := { d.counters with dropped := satInc d.counters.dropped } }), false)

/-! ### Requests -/

/-- FETCH as QM takes it (R98, R99, R101). -/
def State.fetch (s : State) (tag : Byte) (q : QueueNo) (max wait : Nat) : State :=
  if (s.queue q).held.isSome then s.answer tag 0x30 .queueBusy (s.fetchResults q [])
  else
    let s := s.modQueue q (fun d => { d with armed := d.armed || d.notify })
    if Config.lentMax ≤ (s.queue q).lent.length then s.answer tag 0x30 .lentFull (s.fetchResults q [])
    else if !(s.queue q).waiting.isEmpty then s.lendReply q tag max
    else if wait = 0 then s.answer tag 0x30 .ok (s.fetchResults q [])
    else s.modQueue q (fun d => { d with held := some ⟨tag, max, msTimer wait⟩ })

/-- FETCH (R99). -/
def execFetch (tag queue max : Byte) (wait : Half) (s : State) (stage : Stage := .whole) :
    Host.Outcome State Fault Refusal :=
  .next (s.blockRequest stage (.fetch tag queue max wait) tag 0x30 (checkFetch queue max wait) (fun _ => .qm)
    fun (q, m, w) s => s.fetch tag q m w)

/-- The position, from `position` on, of the first number that stands in the list before it (R103). DESIGN CHOICE (log 29):
where several numbers are repeated, the refusal names the earliest of their second appearances. -/
def firstRepeat : Nat → List Half → List Half → Option Nat
  | _, _, [] => none
  | position, seen, n :: ns => if seen.contains n then some position else firstRepeat (position + 1) (n :: seen) ns

/-- The lent frames a RELEASE or RETURN names, in lent-list order, or the refusal (R103). -/
def State.namedLent (s : State) (q : QueueNo) (numbers : Option (List Half)) :
    Except (Status × List Byte) (List SlotNo) :=
  match numbers with
  | none => .ok (s.queue q).lent
  | some ns =>
    match firstRepeat 3 [] ns with
    | some position => .error (.badParam, [byteOf position])
    | none =>
      match ns.find? (fun n => !(s.lentNumbers q).contains n) with
      | some n => .error (.unknownDelivery, le16 n)
      | none => .ok ((s.queue q).lent.filter (fun i => ns.contains (s.slot i).record.deliveryNumber))

/-- Counts of a RELEASE or RETURN reply: the number of frames, and the waiting and lent counts (R103, R104). -/
def State.loanResults (s : State) (q : QueueNo) (n : Nat) : List Byte :=
  [byteOf n, byteOf (s.queue q).waiting.length, byteOf (s.queue q).lent.length]

/-- The loan of the named frames ends and their slots are freed (R103). -/
def State.releaseLent (s : State) (q : QueueNo) (named : List SlotNo) : State :=
  let s := s.modQueue q (fun d => { d with
    lent := d.lent.filter (fun i => !named.contains i)
    counters := { d.counters with released := satAdd d.counters.released named.length } })
  named.foldl State.freeSlot s

/-- RELEASE (R103). -/
def execRelease (tag queue : Byte) (numbers : RawNumbers) (s : State) (stage : Stage := .whole) :
    Host.Outcome State Fault Refusal :=
  .next (s.blockRequest stage (.release tag queue numbers) tag 0x31 (checkRelease queue numbers) (fun _ => .qm)
    fun (q, ns) s =>
    match s.namedLent q ns with
    | .error (status, results) => s.answer tag 0x31 status results
    | .ok named =>
      let s := s.releaseLent q named
      s.answer tag 0x31 .ok (s.loanResults q named.length))

/-- A lent frame goes back to waiting and loses its delivery number (R104). -/
def State.unlend (s : State) (i : SlotNo) : State :=
  s.modSlot i (fun x => { x with state := .queued, record := { x.record with deliveryNumber := 0 } })

/-- The named lent frames go together to the head of the waiting list in lent-list order (R104). -/
def State.returnLent (s : State) (q : QueueNo) (named : List SlotNo) : State :=
  let s := s.modQueue q (fun d => { d with
    waiting := named ++ d.waiting
    lent := d.lent.filter (fun i => !named.contains i)
    counters := { d.counters with returned := satAdd d.counters.returned named.length } })
  named.foldl State.unlend s

/-- RETURN (R104): its reply goes first, then a held fetch is answered by what now waits (R102). -/
def execReturn (tag queue : Byte) (numbers : RawNumbers) (s : State) (stage : Stage := .whole) :
    Host.Outcome State Fault Refusal :=
  .next (s.blockRequest stage (.returnFrames tag queue numbers) tag 0x32 (checkRelease queue numbers) (fun _ => .qm)
    fun (q, ns) s =>
    match s.namedLent q ns with
    | .error (status, results) => s.answer tag 0x32 status results
    | .ok named =>
      let s := s.returnLent q named
      let s := s.answer tag 0x32 .ok (s.loanResults q named.length)
      match (s.queue q).held with
      | some h => if (s.queue q).waiting.isEmpty then s else s.answerHeld q h
      | none => s)

/-- QUEUE_SET as QM takes it (R98, R105). -/
def State.queueSet (s : State) (tag : Byte) (q : QueueNo) (capacity : Nat) (notify : Bool) : State :=
  let old := s.queue q
  let s := s.modQueue q (fun d => { d with capacity := capacity, notify := notify, armed := notify })
  s.answer tag 0x33 .ok
    [byteOf old.capacity, byteOf capacity, byteOf old.count, flagByte (decide (capacity ≤ old.count))]

/-- QUEUE_SET (R105). -/
def execQueueSet (tag queue capacity notify : Byte) (s : State) (stage : Stage := .whole) :
    Host.Outcome State Fault Refusal :=
  .next (s.blockRequest stage (.queueSet tag queue capacity notify) tag 0x33
    (checkQueueSet queue capacity notify) (fun _ => .qm) fun (q, c, y) s => s.queueSet tag q c y)

/-- The results of QUEUE_GET (R106). -/
def State.queueGetResults (s : State) (q : QueueNo) : List Byte :=
  let d := s.queue q
  [byteOf q.val, byteOf d.capacity, flagByte d.notify, flagByte d.armed, byteOf d.waiting.length, byteOf d.lent.length]
    ++ le16 d.nextNumber ++ optBytes (fun h => [h.tag, byteOf h.max]) d.held
    ++ byteOf d.lent.length :: (s.lentNumbers q).flatMap le16

/-- QUEUE_GET (R106). -/
def execQueueGet (tag queue : Byte) (s : State) (stage : Stage := .whole) : Host.Outcome State Fault Refusal :=
  .next (s.blockRequest stage (.queueGet tag queue) tag 0x34 (checkFin 8 1 queue) (fun _ => .qm)
    fun q s => s.answer tag 0x34 .ok (s.queueGetResults q))

/-- WAIT_TIMER_EXPIRY (R101): the held fetch is answered OK with zero frames. -/
def execWaitTimerExpiry (q : QueueNo) (s : State) (after : Nat := 0) : Host.Outcome State Fault Refusal :=
  .next (s.expire after (fun s => (s.queue q).held.map HeldFetch.timer) fun s =>
    match (s.queue q).held with
    | some h => s.endHeld q h .ok
    | none => s)

/-! ### Session end (R109) -/

/-- The session end at one queue: a held fetch is answered CANCELLED, the lent frames return, notify is armed. The reply's
counts are those after the happening (R99, log 15). The result counts the fetches cancelled and the frames returned. -/
def State.queueSessionEnd (s : State) (q : QueueNo) : State × Nat × Nat :=
  let d := s.queue q
  let s := s.returnLent q d.lent
  let s := s.modQueue q (fun d => { d with armed := d.armed || d.notify })
  match d.held with
  | some h => (s.endHeld q h .cancelled, 1, d.lent.length)
  | none => (s, 0, d.lent.length)

/-- The session end at QM, queue by queue, Q0 first (R109). -/
def State.queuesSessionEnd (s : State) : State × Nat × Nat :=
  (List.finRange 8).foldl (fun (s, cancelled, returned) q =>
    let (s, c, r) := s.queueSessionEnd q
    (s, cancelled + c, returned + r)) (s, 0, 0)

end Sys2Proof.Machine
end

