-- ==== Sys2Proof/Machine/Reports.lean ====
section
/-! DEFINITION. The Report Unit (09_reports_and_counters.md): queueing reports, losses, the session's reports, the requests
ACK_REPORTS, RESEND_REPORTS and STATS, and the happenings REPORT_RAISED and LOSS_HANDED. -/

namespace Sys2Proof.Machine

/-! ### Queueing (R162) -/

/-- A report takes the next sequence number and the last place of the Report Queue, and a copy goes to HL (R162 step 3). -/
def State.queueReport (s : State) (r : Report) : State :=
  let q : QueuedReport := { sequence := s.ru.nextSeq, report := r }
  let s : State := { s with ru := { s.ru with queue := s.ru.queue ++ [q], nextSeq := nextNumber s.ru.nextSeq } }
  s.handReport q

/-- RU takes a report (R162); the answer says whether it was queued. -/
def State.takeReport (s : State) (r : Report) : State × Bool :=
  if s.ru.reporting = false then (s, false)
  else if Config.reportPlaces ≤ s.ru.queue.length then
    ({ s with ru := { s.ru with lost := satInc s.ru.lost } }, false)
  else (s.queueReport r, true)

/-! ### What the blocks have raised (R161, R167) -/

/-- RU has yet to take the item. -/
def Raised.waitsForRU : Raised → Bool
  | .report _ => true
  | .loss _ _ waits => waits != .lp

/-- The Line Port of a line has yet to take the item. -/
def Raised.waitsForLP (line : LineNo) : Raised → Bool
  | .report _ => false
  | .loss _ n waits => n == line && waits != .ru

/-- What is left of an item once RU has taken it: a loss that its Line Port has yet to take. -/
def Raised.afterRU : Raised → Option Raised
  | .loss cause line .both => some (.loss cause line .lp)
  | _ => none

/-- What is left of an item once its Line Port has taken it: a loss that RU has yet to take. -/
def Raised.afterLP : Raised → Option Raised
  | .loss cause line .both => some (.loss cause line .ru)
  | _ => none

/-- The first item of a source that passes a test becomes what is left of it. -/
def settleFirst (src : Source) (test : Raised → Bool) (left : Raised → Option Raised) :
    List (Source × Raised) → List (Source × Raised)
  | [] => []
  | x :: rest =>
    if x.1 == src && test x.2 then (left x.2).toList.map (fun r => (src, r)) ++ rest
    else x :: settleFirst src test left rest

/-- What the source raised first of what a taker has not yet taken (R161). -/
def State.firstRaised (s : State) (src : Source) (test : Raised → Bool) : Option Raised :=
  (s.ru.inbox.find? (fun x => x.1 == src && test x.2)).map Prod.snd

/-- The taker has taken it. -/
def State.settleRaised (s : State) (src : Source) (test : Raised → Bool) (left : Raised → Option Raised) : State :=
  { s with ru := { s.ru with inbox := settleFirst src test left s.ru.inbox } }

/-- RU has taken the source's next item. -/
def State.takenByRU (s : State) (src : Source) : State := s.settleRaised src Raised.waitsForRU Raised.afterRU

/-- REPORT_RAISED (R162); nothing when the source's next item is not a report (R161 keeps a block's order; log 2). -/
def execReportRaised (src : Source) (s : State) : Host.Outcome State Fault Refusal :=
  .next (match s.firstRaised src Raised.waitsForRU with
    | some (.report r) => ((s.takenByRU src).takeReport r).1
    | _ => s)

/-- RU decides on a LOSS report after counting a loss (R168). -/
def State.raiseLoss (s : State) : State :=
  if s.ru.reporting = false then s
  else if s.ru.lossPending then s
  else
    let (s, queued) := s.takeReport (.loss s.ru.losses)
    if queued then { s with ru := { s.ru with lossPending := true } } else s

/-- RU takes a loss (R167, R168). -/
def State.countLoss (s : State) (cause : LossCause) : State :=
  ({ s with ru := { s.ru with losses := s.ru.losses.count cause } } : State).raiseLoss

/-- The Line Port of the line takes a loss (R167). -/
def State.countLineLoss (s : State) (cause : LossCause) (line : LineNo) : State :=
  s.modPort line (fun p => { p with losses := p.losses.count cause })

/-- LOSS_HANDED as RU takes it; nothing when the source's next item is not a loss (R161 keeps a block's order; log 2). -/
def State.lossAtRU (s : State) (src : Source) : State :=
  match s.firstRaised src Raised.waitsForRU with
  | some (.loss cause _ _) => (s.takenByRU src).countLoss cause
  | _ => s

/-- LOSS_HANDED as the Line Port of a line takes it; nothing when the source has handed it no loss (log 2). -/
def State.lossAtLP (s : State) (src : Source) (line : LineNo) : State :=
  match s.firstRaised src (Raised.waitsForLP line) with
  | some (.loss cause _ _) => (s.settleRaised src (Raised.waitsForLP line) Raised.afterLP).countLineLoss cause line
  | _ => s

/-- LOSS_HANDED (R167). -/
def execLossHanded (src : Source) (s : State) (taker : LossTaker := .ru) : Host.Outcome State Fault Refusal :=
  .next (match taker with
    | .ru => s.lossAtRU src
    | .lp line => s.lossAtLP src line)

/-! ### Sessions (R154, R166) -/

/-- RU takes the session open (R166). -/
def State.reportsSessionOpen (s : State) : State :=
  { s with ru := { s.ru with nextSeq := 1, reporting := true } }

/-- What is known of the session open under way changes; once RU has taken it and RE has counted the parked frames, the reply
to the OPEN is handed over (R154 step 3). -/
def State.setOpening (s : State) (o : SessionOpening) : State :=
  match o.reportsTaken, o.parked with
  | true, some parked =>
    ({ s with hl := { s.hl with opening := none } } : State).reply o.tag 0x01 .ok
      ([s.hl.cause.code] ++ le32 o.takenAt ++ [byteOf parked, flagByte o.ended] ++ capacityBytes)
  | _, _ => { s with hl := { s.hl with opening := some o } }

/-- RU takes the session open that waits for it, if one does (R154, R166). -/
def State.takeOpen (s : State) : State :=
  match s.hl.opening with
  | some o => if o.reportsTaken then s else s.reportsSessionOpen.setOpening { o with reportsTaken := true }
  | none => s

/-- RE takes the OPEN that HL has handed it and counts the parked frames, if it has not yet (R154; log 32). -/
def State.countParked (s : State) : State :=
  match s.hl.opening with
  | some o => if o.parked.isSome then s else s.setOpening { o with parked := some s.re.parks.length }
  | none => s

/-- The packet is a copy of a report. -/
def OutPacket.isReport (p : OutPacket) : Bool :=
  match p.kind with
  | .report _ => true
  | _ => false

/-- RU takes the session end, and HL withdraws the reports it has not begun to send (R166, R155); the result counts the
reports dropped. -/
def State.reportsSessionEnd (s : State) : State × Nat :=
  (({ s with ru := { s.ru with reporting := false, queue := [], lossPending := false, lost := 0 } } : State).dropCopies
    OutPacket.isReport, s.ru.queue.length)

/-! ### ACK_REPORTS and RESEND_REPORTS (R164, R165) -/

/-- The queue split after the report with a sequence number: what an acknowledgement removes and what is left (R164). -/
def ackSplit (sequence : Half) : List QueuedReport → Option (List QueuedReport × List QueuedReport)
  | [] => none
  | r :: rest =>
    if r.sequence = sequence then some ([r], rest)
    else (ackSplit sequence rest).map fun (removed, left) => (r :: removed, left)

/-- The report is a LOSS report. -/
def QueuedReport.isLoss (r : QueuedReport) : Bool :=
  match r.report with
  | .loss _ => true
  | _ => false

/-- The packet is a copy of one of the reports. -/
def OutPacket.copies (p : OutPacket) (reports : List QueuedReport) : Bool :=
  reports.any (fun r => p.kind == .report r.sequence)

/-- The sequence number of a report, 0 when there is none (R164, R165). -/
def sequenceOf (r : Option QueuedReport) : Half := (r.map QueuedReport.sequence).getD 0

/-- The lost-report count is reported and set to 0 (R163). -/
def State.reportLost (s : State) : State :=
  if s.ru.lost = 0 then s
  else
    let count := s.ru.lost
    let s := s.queueReport (.reportsLost count)
    { s with ru := { s.ru with lost := 0 } }

/-- ACK_REPORTS as RU takes it (R164). -/
def State.ack (s : State) (tag : Byte) (sequence : Half) : State :=
  match ackSplit sequence s.ru.queue with
  | none => s.answer tag 0x40 .unknownSequence []
  | some (removed, left) =>
    let s : State := { s with
      ru := { s.ru with queue := left, lossPending := s.ru.lossPending && !removed.any QueuedReport.isLoss } }
    let s := s.dropCopies (fun p => p.copies removed)
    let s := s.answer tag 0x40 .ok ([byteOf removed.length, byteOf left.length] ++ le16 (sequenceOf left.head?))
    s.reportLost

/-- ACK_REPORTS (R164). -/
def execAckReports (tag : Byte) (sequence : Half) (s : State) (stage : Stage := .whole) :
    Host.Outcome State Fault Refusal :=
  .next (s.blockRequest stage (.ackReports tag sequence) tag 0x40 (checkAck sequence) (fun _ => .ru)
    fun _ s => s.ack tag sequence)

/-- RESEND_REPORTS as RU takes it (R165). -/
def State.resend (s : State) (tag : Byte) : State :=
  let q := s.ru.queue
  (q.foldl State.handReport s).answer tag 0x41 .ok
    (byteOf q.length :: le16 (sequenceOf q.head?) ++ le16 (sequenceOf q.getLast?))

/-- RESEND_REPORTS (R165). -/
def execResendReports (tag : Byte) (s : State) (stage : Stage := .whole) : Host.Outcome State Fault Refusal :=
  .next (s.blockRequest stage (.resendReports tag) tag 0x41 (.ok ()) (fun _ => .ru)
    fun _ s => s.resend tag)

/-! ### STATS (R170, R171) -/

/-- The number of entries of the Route Table that satisfy a test. -/
def State.countRoutes (s : State) (test : Option RouteEntry → Bool) : Nat := s.re.routes.toList.countP test

/-- A place of the table holds an entry in the state. -/
def entryIn (st : EntryState) (e : Option RouteEntry) : Bool := e.any (fun e => e.state == st)

/-- The items of the selector LOSSES, as RU holds them (R171). -/
def ReportUnit.lossItems (r : ReportUnit) : List Byte :=
  r.losses.bytes ++ le16 r.lost ++ [flagByte r.lossPending, byteOf r.queue.length] ++ le16 r.nextSeq

/-- The items of a selector once its last block is read, as that block holds them now; for LINE what the Capture Unit has
returned comes first (R171). -/
def State.readItems (s : State) : BlockRead → List Byte
  | .unit n => (s.unit n).counters.bytes
  | .port n capture => capture.bytes ++ (s.port n).rxCounters.bytes ++ (s.port n).txCounters.bytes ++ (s.port n).losses.bytes
  | .queue q =>
    (s.queue q).counters.bytes ++ [byteOf (s.queue q).waiting.length, byteOf (s.queue q).lent.length]
  | .routes =>
    s.re.table.bytes ++ s.re.resolution.bytes
      ++ [byteOf (s.countRoutes Option.isNone), byteOf (s.countRoutes (entryIn .active)),
          byteOf (s.countRoutes (entryIn .suspended)), byteOf (s.countRoutes (fun e => e.any RouteEntry.pinned))]
      ++ le48 s.re.useCounter ++ [byteOf s.re.parks.length]
  | .pool => s.pool.counters.bytes ++ [byteOf s.freeSlots]

/-- An entry with its hit count cleared (R171). -/
def RouteEntry.clearHits (e : RouteEntry) : RouteEntry := { e with hits := 0 }

/-- The counters that a read returns cleared at its block (R170, R171). -/
def State.clearRead (s : State) : BlockRead → State
  | .unit n => s.modUnit n (fun u => { u with counters := {} })
  | .port n _ => s.modPort n (fun p => { p with rxCounters := {}, txCounters := {}, losses := {} })
  | .queue q => s.modQueue q (fun d => { d with counters := {} })
  | .routes =>
    { s with re := { s.re with
      table := {}, resolution := {}, routes := mapVector (Option.map RouteEntry.clearHits) s.re.routes } }
  | .pool => { s with pool := { s.pool with counters := { leastFree := s.freeSlots } } }

/-- The selector that a read serves (R170). -/
def BlockRead.selector : BlockRead → Selector
  | .unit n => .line n
  | .port n _ => .line n
  | .queue q => .queue q
  | .routes => .routes
  | .pool => .pool

/-- The first read that RU hands out for a selector; none for LOSSES, whose counters are RU's own (R170). -/
def Selector.firstRead : Selector → Option BlockRead
  | .line n => some (.unit n)
  | .queue q => some (.queue q)
  | .losses => none
  | .routes => some .routes
  | .pool => some .pool

/-- The reply to a STATS (R170, R171). -/
def State.answerStats (s : State) (tag : Byte) (x : Selector) (items : List Byte) : State :=
  s.answer tag 0x42 .ok ([x.code, x.operand] ++ items)

/-- RU takes a STATS (R170): for LOSSES it reads its own counters, clears them where asked and replies; for every other
selector it hands out the first read. -/
def State.stats (s : State) (tag : Byte) (x : Selector) (clear : Bool) : State :=
  match x.firstRead with
  | some first =>
    { s with ru := { s.ru with reads := s.ru.reads ++ [{ tag := tag, clear := clear, next := first }] } }
  | none =>
    (if clear then { s with ru := { s.ru with losses := {} } } else s : State).answerStats tag x s.ru.lossItems

/-- A block is read, and cleared where asked, in one happening, and what it returned are the values before the clear; after the
Capture Unit the Line Port waits for its read, and after every other block RU hands the reply over (R170). -/
def State.readBlock (s : State) (r : StatsRead) : State :=
  let cleared := if r.clear then s.clearRead r.next else s
  match r.next with
  | .unit n =>
    let returned : StatsRead := { r with next := .port n (s.unit n).counters }
    { cleared with ru := { s.ru with reads := s.ru.reads.map (fun x => if x.tag == r.tag then returned else x) } }
  | last =>
    ({ cleared with ru := { s.ru with reads := s.ru.reads.filter (fun x => x.tag != r.tag) } } : State).answerStats
      r.tag last.selector (s.readItems last)

/-- STATS as a block takes it: the next read for the STATS with the tag; nothing when none with the tag waits (log 2). Reads
for several STATS that wait together are taken in either order (R2). -/
def State.statsAtBlock (s : State) (tag : Byte) : State :=
  match s.ru.reads.find? (fun r => r.tag == tag) with
  | none => s
  | some r => s.readBlock r

/-- STATS (R170, R171). -/
def execStats (tag selector operand clear : Byte) (s : State) (taker : StatsTaker := .request .whole) :
    Host.Outcome State Fault Refusal :=
  .next (match taker with
    | .request stage =>
      s.blockRequest stage (.stats tag selector operand clear) tag 0x42 (checkStats selector operand clear) (fun _ => .ru)
        fun (x, c) s => s.stats tag x c
    | .read => s.statsAtBlock tag)

end Sys2Proof.Machine
end

