-- ==== Sys2Proof/Machine/Link.lean ====
section
/-! DEFINITION. The Host Link (08_the_host_link.md): device reset, discarded packets, the transmitter, the session and its
end, and the requests HL carries out itself: OPEN, CLOSE, CANCEL, IDENTIFY and RESET. -/

namespace Sys2Proof.Machine

/-! ### Device reset (R159) -/

/-- A device reset (R159): every block takes its reset values, the cause is recorded and the straps are sampled. What is under
way between blocks is dropped, a choice of the model where R159 and the state tables give it no value (log 33). The queue of
commands to come and the count of free values go on (log 17). -/
def State.deviceReset (s : State) (cause : ResetCause) (straps : Straps) : State :=
  { State.reset with
    pending := s.pending, freeCount := s.freeCount, hl := { State.reset.hl with cause := cause, straps := straps } }

/-- POWER_UP (R159). -/
def execPowerUp (straps : Straps) (s : State) : Host.Outcome State Fault Refusal := .next (s.deviceReset .power straps)

/-- RESET_PIN (R159). -/
def execResetPin (straps : Straps) (s : State) : Host.Outcome State Fault Refusal := .next (s.deviceReset .pin straps)

/-! ### Discarded packets (R148) -/

/-- The discard counter of a cause (R160). -/
def LinkCounters.discard (c : LinkCounters) : DiscardCause → LinkCounters
  | .gap => { c with discardsGap := satInc c.discardsGap }
  | .length => { c with discardsLength := satInc c.discardsLength }
  | .check => { c with discardsCheck := satInc c.discardsCheck }
  | .kind => { c with discardsKind := satInc c.discardsKind }

/-- A packet is discarded (R148): the bytes kept are dropped, the discard is counted and a notice raised. -/
def State.discardPacket (s : State) (cause : DiscardCause) : State :=
  let s := s.packetDone
  ({ s with hl := { s.hl with counters := s.hl.counters.discard cause } } : State).notice cause

/-- The cause of a discard that a received packet carries in itself. -/
def badCause : BadPacket → DiscardCause
  | .length => .length
  | .check => .check
  | .kind => .kind

/-- PACKET_DISCARDED (R148); while HL ignores its input no packet is received (R158). -/
def execPacketDiscarded (why : BadPacket) (s : State) : Host.Outcome State Fault Refusal :=
  .next (if s.hl.ignoring then s else s.discardPacket (badCause why))

/-- HOST_GAP_EXPIRY (R148); while HL ignores its input the timer only stops (R158). -/
def execHostGapExpiry (s : State) (after : Nat := 0) : Host.Outcome State Fault Refusal :=
  .next (s.expire after (fun s => s.hl.gapTimer) fun s =>
    if s.hl.ignoring then { s with hl := { s.hl with gapTimer := none } } else s.discardPacket .gap)

/-! ### The transmitter (R160) -/

/-- The packet being sent leaves the list and the next one begins (R160). -/
def State.sendNext (s : State) : State :=
  match s.hl.waiting with
  | [] => { s with hl := { s.hl with sending := none } }
  | p :: rest => { s with hl := { s.hl with sending := some p, waiting := rest } }

/-- The transmitter, at rest, begins the first packet that waits; nothing while it sends one or none waits (log 2). -/
def State.beginSending (s : State) : State := if s.hl.sending.isSome then s else s.sendNext

/-- The last byte of the packet being sent leaves TXD; that of the RESET reply is the device reset (R158). -/
def State.packetLeaves (s : State) (straps : Straps) : State :=
  match s.hl.sending with
  | none => s
  | some p => if p.kind = .resetReply then s.deviceReset .request straps else s.sendNext

/-- PACKET_SENT (R160), and the other happenings at the outgoing list (log 11). -/
def execPacketSent (straps : Straps) (s : State) (event : ListEvent := .sent) : Host.Outcome State Fault Refusal :=
  .next (match event with
    | .sent => s.packetLeaves straps
    | .begins => s.beginSending
    | .joins => s.takeIncoming)

/-! ### Sessions (R154 to R156) -/

/-- An OPEN is carried out (R154): the session becomes OPEN, and HL hands session open to RU and the OPEN to RE. -/
def State.openNow (s : State) (tag : Byte) (takenAt : Time) (ended : Bool) : State :=
  { s with hl := { s.hl with
    session := .opened, opening := some { tag := tag, takenAt := takenAt, ended := ended } } }

/-- A session end begins (R155 step 1); the blocks take it at SESSION_END. -/
def State.beginEnd (s : State) (cause : EndCause) : State :=
  { s with hl := { s.hl with session := .closed, ending := some { cause := cause } } }

/-- OPEN as HL takes it: carried out, the start of a session end, or waiting for the one under way (R154, R155). -/
def State.openTaken (s : State) (tag : Byte) : State :=
  if s.hl.ending.isSome then { s with hl := { s.hl with opensWaiting := s.hl.opensWaiting ++ [tag] } }
  else
    match s.hl.session with
    | .closed => s.openNow tag s.time false
    | .opened => s.beginEnd (.byOpen tag s.time)

/-- OPEN (R154); at RU and RE nothing when no session open with the tag is under way (log 2). -/
def execOpen (tag : Byte) (s : State) (taker : OpenTaker := .hl) : Host.Outcome State Fault Refusal :=
  .next (match taker with
    | .hl => s.request tag 0x01 false (.ok ()) fun _ s => s.openTaken tag
    | .ru => if s.hl.opening.any (fun o => o.tag == tag) then s.takeOpen else s
    | .re => if s.hl.opening.any (fun o => o.tag == tag) then s.countParked else s)

/-- CLOSE (R156): the session end begins; the reply waits for it. -/
def execClose (tag : Byte) (s : State) : Host.Outcome State Fault Refusal :=
  .next (s.request tag 0x02 true (.ok ()) fun _ s => s.beginEnd (.byClose tag))

/-- The session end at one Line Port: an ATTACHED drain becomes DETACHED and HL frees its slot (R140, R151). The result
counts the drains detached. -/
def State.portSessionEnd (s : State) (n : LineNo) : State × Nat :=
  match (s.port n).drain with
  | some d =>
    match d.requester with
    | .attached tag =>
      let s := s.modPort n (fun p => { p with drain := some { d with requester := .detached } })
      (s.freeTag tag, 1)
    | .detached => (s, 0)
  | none => (s, 0)

/-- An OPEN that waited for a session end is taken (R155, log 20). -/
def State.nextOpen (s : State) : State :=
  if s.hl.ending.isSome then s
  else
    match s.hl.opensWaiting with
    | [] => s
    | tag :: rest => ({ s with hl := { s.hl with opensWaiting := rest } } : State).openTaken tag

/-- What is known of the session end under way changes. -/
def State.setEnding (s : State) (e : SessionEnding) : State := { s with hl := { s.hl with ending := some e } }

/-- QM takes the session end (R109). -/
def State.queuesTakeEnd (s : State) (e : SessionEnding) : State :=
  let (s, cancelled, returned) := s.queuesSessionEnd
  s.setEnding { e with queuesTaken := true, cancelled := cancelled, returned := returned }

/-- A Line Port takes the session end (R140). -/
def State.portTakesEnd (s : State) (e : SessionEnding) (n : LineNo) : State :=
  let (s, k) := s.portSessionEnd n
  s.setEnding { e with portsTaken := e.portsTaken.set n true, detached := e.detached + k }

/-- RU takes the session end (R166). -/
def State.reportsTakeEnd (s : State) (e : SessionEnding) : State :=
  let (s, dropped) := s.reportsSessionEnd
  s.setEnding { e with reportsTaken := true, dropped := dropped }

/-- Every block has taken the session end; CU, FP and RE change nothing by it (R155). -/
def SessionEnding.complete (e : SessionEnding) : Bool :=
  e.queuesTaken && (List.finRange 8).all (fun n => e.portsTaken[n]) && e.reportsTaken

/-- HL goes on after a session end once every block has taken it and what was handed to it before, and the replies to the
requests accepted before it have joined the outgoing list: an OPEN whose session open is under way and STATS that wait for a
block among them (R155). -/
def State.endComplete (s : State) (e : SessionEnding) : Bool :=
  e.complete && s.hl.opening.isNone && s.ru.reads.isEmpty && s.hl.handed.isEmpty && s.hl.incoming.isEmpty

/-- The request that caused a session end goes on (R155 step 3). -/
def State.afterEnd (s : State) (e : SessionEnding) : State :=
  match e.cause with
  | .byClose tag => s.reply tag 0x02 .ok [byteOf e.cancelled, byteOf e.returned, byteOf e.detached, byteOf e.dropped]
  | .byOpen tag takenAt => s.openNow tag takenAt true

/-- The session end is over: the request that caused it goes on, and OPENs that waited are then taken, at most one of which
opens a session and one of which begins another end (R155). -/
def State.finishEnd (s : State) (e : SessionEnding) : State :=
  (({ s with hl := { s.hl with ending := none } } : State).afterEnd e).nextOpen.nextOpen

/-- The session end under way as one taker takes it; nothing when that block has taken it already or has yet to take what HL
handed it before (R153), and at HL nothing before every block has taken the end (R155). -/
def State.takeEnd (s : State) (e : SessionEnding) : EndTaker → State
  | .qm => if e.queuesTaken || !s.nothingAhead .qm then s else s.queuesTakeEnd e
  | .lp n => if e.portsTaken[n] || !s.nothingAhead (.lp n) then s else s.portTakesEnd e n
  | .ru => if e.reportsTaken || !s.nothingAhead .ru then s else s.reportsTakeEnd e
  | .hl => if s.endComplete e then s.finishEnd e else s

/-- SESSION_END (R155); nothing when no session end has begun (log 2). -/
def execSessionEnd (s : State) (taker : EndTaker := .hl) : Host.Outcome State Fault Refusal :=
  .next (match s.hl.ending with
    | some e => s.takeEnd e taker
    | none => s)

/-! ### CANCEL (R157) -/

/-- The queue whose held fetch has the tag. -/
def State.fetchTagged (s : State) (tag : Byte) : Option QueueNo :=
  (List.finRange 8).find? (fun q => (s.queue q).held.any (fun h => h.tag == tag))

/-- The line whose attached drain has the tag. -/
def State.drainTagged (s : State) (tag : Byte) : Option LineNo :=
  (List.finRange 8).find? (fun n => (s.port n).drain.any (fun d => d.requester == .attached tag))

/-- A drain is called off (R139), and its LINE_SET answered CANCELLED. -/
def State.cancelDrain (s : State) (n : LineNo) (d : Drain) (target : Byte) : State :=
  let s := s.modPort n (fun p => { p with drain := none })
  let s := s.modUnit n CaptureUnit.resume
  s.answer target 0x3A .cancelled
    ([byteOf n.val, (s.port n).lineState.code]
      ++ (if d.cutDone then [byteOf d.aborted, byteOf d.flushed] else [0, 0]))

/-- QM takes the CANCEL of a FETCH (R157, R101). -/
def State.cancelFetch (s : State) (tag target : Byte) : State :=
  match s.fetchTagged target with
  | none => s.answer tag 0x03 .unknownTag []
  | some q =>
    match (s.queue q).held with
    | none => s.answer tag 0x03 .unknownTag []
    | some h => (s.endHeld q h .cancelled).answer tag 0x03 .ok []

/-- The Line Port takes the CANCEL of a LINE_SET (R157, R139). -/
def State.cancelLineSet (s : State) (tag target : Byte) (n : LineNo) : State :=
  match (s.port n).drain with
  | none => s.answer tag 0x03 .unknownTag []
  | some d =>
    if d.requester = .attached target then (s.cancelDrain n d target).answer tag 0x03 .ok []
    else s.answer tag 0x03 .unknownTag []

/-- The block that HL has handed a CANCEL takes it (R157); HL hands it to QM and to Line Ports only. -/
def State.cancelAt (s : State) (tag target : Byte) : Block → State
  | .lp n => s.cancelLineSet tag target n
  | _ => s.cancelFetch tag target

/-- The command is the FETCH or the LINE_SET with the tag. -/
def endsByCancel (target : Byte) : Instr → Bool
  | .fetch tag _ _ _ _ => tag == target
  | .lineSet tag _ _ _ _ => tag == target
  | _ => false

/-- The block that HL hands a CANCEL to, by what the tag names (R157): QM for a FETCH that is held or that QM has not yet taken,
the Line Port for a LINE_SET that has started a drain or that its port has not yet taken. For every other tag there is none,
and so for a FETCH or a LINE_SET whose reply is already on its way to HL (log 34). -/
def State.cancelOwner (s : State) (target : Byte) : Option Block :=
  match s.hl.slots.find? (fun r => r.tag == target) with
  | none => none
  | some _ =>
    match s.fetchTagged target, s.drainTagged target with
    | some _, _ => some .qm
    | none, some n => some (.lp n)
    | none, none => (s.hl.handed.find? (fun x => endsByCancel target x.2)).map Prod.fst

/-- CANCEL as HL takes it (R157). -/
def State.cancel (s : State) (tag target : Byte) (both : Bool) : State :=
  match s.cancelOwner target with
  | none => s.reply tag 0x03 .unknownTag []
  | some b => s.handTo b (.cancel tag target) both fun s => s.cancelAt tag target b

/-- CANCEL (R157). -/
def execCancel (tag target : Byte) (s : State) (stage : Stage := .whole) : Host.Outcome State Fault Refusal :=
  .next (match stage with
    | .whole => s.request tag 0x03 true (checkCancel target) fun _ s => s.cancel tag target true
    | .accept => s.request tag 0x03 true (checkCancel target) fun _ s => s.cancel tag target false
    | .block => s.takeHanded (.cancel tag target) fun b s => s.cancelAt tag target b)

/-! ### IDENTIFY, RESET and unknown requests (R158, R152) -/

/-- The results of IDENTIFY (R158, log 23). -/
def State.identity (s : State) : List Byte :=
  le16 Config.vendorCode ++ le16 Config.partCode ++ [Config.revision] ++ capacityBytes
    ++ [s.hl.cause.code, s.hl.session.code, strapCode s.hl.straps] ++ s.hl.counters.bytes

/-- IDENTIFY (R158). -/
def execIdentify (tag : Byte) (s : State) : Host.Outcome State Fault Refusal :=
  .next (s.request tag 0x04 false (.ok ()) fun _ s => s.reply tag 0x04 .ok s.identity)

/-- RESET (R158): the reply joins the outgoing list, HL ignores its input from now on, and the slot is kept. -/
def execResetRequest (tag : Byte) (s : State) : Host.Outcome State Fault Refusal :=
  .next (s.request tag 0x05 false (.ok ()) fun _ s =>
    let s := s.hand { kind := .resetReply, tag := tag, payload := [0x05, Status.ok.code] }
    { s with hl := { s.hl with ignoring := true } })

/-- A request whose payload is empty or begins with no request code (R152 step 1). -/
def State.unknownRequest (s : State) (tag : Byte) (code : Option Byte) : State :=
  s.takeRequest tag (code.getD 0) fun s => s.reply tag (code.getD 0) .unknownRequest []

/-- UNKNOWN_REQUEST (R152); nothing when the code is one of the part's, since no such packet is unknown (log 2). -/
def execUnknownRequest (tag : Byte) (code : Option Byte) (s : State) : Host.Outcome State Fault Refusal :=
  .next (if code.any requestCodes.contains then s else s.unknownRequest tag code)

end Sys2Proof.Machine
end

