-- ==== Sys2Proof/Machine/Resolve.lean ====
section
/-! DEFINITION. Resolution (04_resolution_and_the_park_list.md): matching, dispatch, parking, the cascade and the release
of parked frames, and the happenings FRAME_TAKEN and PARK_TIMER_EXPIRY. -/

namespace Sys2Proof.Machine

/-! ### Matching (R48, R50) -/

/-- A scope serves a domain (R48). -/
def Scope.serves (sc : Scope) (d : Domain) : Bool :=
  match sc with
  | .domain e => e == d
  | .shared => true

/-- An in-use entry matches a key of a width in a domain (R48). -/
def RouteEntry.serves (e : RouteEntry) (key : Half) (width : KeyWidth) (d : Domain) : Bool :=
  e.width == width && e.key == key && e.scope.serves d

/-- The entry at an index, if in use and matching. -/
def State.servesAt (s : State) (i : RouteNo) (key : Half) (width : KeyWidth) (d : Domain) : Bool :=
  match s.route i with
  | some e => e.serves key width d
  | none => false

/-- The lookup of R70: by R49 at most one entry matches. -/
def State.lookup (s : State) (key : Half) (width : KeyWidth) (d : Domain) : Option RouteNo :=
  (List.finRange 48).find? (fun i => s.servesAt i key width d)

/-- A match of the entry at an index: the use counter advances, the entry is stamped and its hit count rises (R50). -/
def State.countMatch (s : State) (i : RouteNo) : State :=
  match s.route i with
  | none => s
  | some e =>
    let stamp := satInc s.re.useCounter
    let s := s.setRoute i (some { e with hits := satInc e.hits, stamp := stamp })
    { s with re := { s.re with useCounter := stamp } }

/-! ### Dispatch (R71 to R75) -/

/-- A frame on its way through RE: its slot, with the key offset and width a rewrite needs. -/
structure Resolved where
  slot : SlotNo
  keyOffset : Fin 8
  width : KeyWidth
deriving DecidableEq, Repr

/-- The route origin is set before the frame is offered anywhere (R71). -/
def State.setOrigin (s : State) (i : SlotNo) (o : RouteOrigin) : State :=
  s.modRecord i (fun r => { r with routeOrigin := some o })

/-- A dispatch by DELIVER (R72); the answer says whether the queue placed the frame. -/
def State.deliver (s : State) (i : SlotNo) (q : QueueNo) : State × Bool :=
  (s.modResolution (fun c => { c with delivered := satInc c.delivered })).place q i

/-- A dispatch by FORWARD, after any rewrite (R73); the answer says whether the line placed the frame. -/
def State.forward (s : State) (i : SlotNo) (n : LineNo) (source : RouteSource) : State × Bool :=
  (s.modResolution (fun c => { c with forwarded := satInc c.forwarded })).offerForward n i source

/-- A dispatch by DISCARD (R75). -/
def State.discard (s : State) (i : SlotNo) : State :=
  (s.modResolution (fun c => { c with discarded := satInc c.discarded })).freeSlot i

/-- An offer to the default queue, for a short frame or for park overflow (R68, R80). -/
def State.toDefault (s : State) (i : SlotNo) (q : QueueNo) : State :=
  let s := s.setOrigin i .default
  ((s.modResolution (fun c => { c with defaulted := satInc c.defaulted })).place q i).1

/-- The entry's rewrite, if any, applied to the frame's key bytes (R47, R73). -/
def State.applyRewrite (s : State) (x : Resolved) (rewrite : Option Half) : State :=
  match rewrite with
  | none => s
  | some v => s.modSlot x.slot (fun y => { y with data := rewriteKey y.data x.keyOffset x.width v })

/-- A dispatch by MIRROR (R74): claim and fill the copy, rewrite and forward the original, deliver the copy. The mirrored
counter alone rises (R92). -/
def State.mirror (s : State) (x : Resolved) (n : LineNo) (q : QueueNo) (rewrite : Option Half) (source : RouteSource) :
    State :=
  let s := s.modResolution (fun c => { c with mirrored := satInc c.mirrored })
  let original := s.slot x.slot
  let line := original.record.line
  match s.claim .mirror (.line line)
    { state := .withRE, data := original.data, record := { original.record with mirrorCopy := true } } with
  | (.granted copy, s) =>
    let s := s.applyRewrite x rewrite
    let s := (s.offerForward n x.slot source).1
    (s.place q copy).1
  | (_, s) =>
    let s := s.lose .re .mirrorNoSlot line
    let s := s.applyRewrite x rewrite
    (s.offerForward n x.slot source).1

/-- A frame is dispatched by the entry at an index, with that index as its route origin (R71). -/
def State.dispatch (s : State) (x : Resolved) (i : RouteNo) (e : RouteEntry) : State :=
  let s := s.setOrigin x.slot (.entry i)
  match e.action with
  | .deliver q => (s.deliver x.slot q).1
  | .forward n => ((s.applyRewrite x e.rewrite).forward x.slot n (.entry i)).1
  | .mirror n q => s.mirror x n q e.rewrite (.entry i)
  | .discard => s.discard x.slot

/-! ### Parking (R76 to R80) -/

/-- Two parked frames, or a frame and a parked one, of one line, width and key are of one group (R69, R81). -/
def ParkRecord.inGroup (r : ParkRecord) (line : LineNo) (width : KeyWidth) (key : Half) : Bool :=
  r.line == line && r.width == width && r.key == key

/-- The oldest parked frame of a group. -/
def State.oldestOf (s : State) (line : LineNo) (width : KeyWidth) (key : Half) : Option ParkRecord :=
  s.re.parks.find? (fun r => r.inGroup line width key)

/-- The parked counter of a reason (R92). -/
def ResolutionCounters.park (c : ResolutionCounters) : ParkReason → ResolutionCounters
  | .miss => { c with parkedMiss := satInc c.parkedMiss }
  | .suspended _ => { c with parkedSuspended := satInc c.parkedSuspended }
  | .order => { c with parkedOrder := satInc c.parkedOrder }

/-- The report of a frame that parks with a reason, or becomes a head with it (R79, R87). -/
def State.reportParked (s : State) (r : ParkRecord) : State :=
  match r.reason with
  | .miss => s.raise .re (.routeMiss r.number r.line r.key r.width r.length)
  | .suspended i => s.raise .re (.routeHeld r.number i r.line r.key)
  | .order => s

/-- A frame takes the last place in the Park List (R76 to R79). -/
def State.parkFrame (s : State) (h : HandedFrame) (key : Half) (reason : ParkReason) : State :=
  let number := issueNumber (s.re.parks.map ParkRecord.number) s.re.parkNumber
  let timeout := msTimer s.re.parkTimeout.toNat
  let r : ParkRecord :=
    { number := number, reason := reason, line := h.line, width := h.keyWidth, key := key, domain := h.domain,
      sequence := (s.slot h.slot).record.sequence, length := (s.slot h.slot).data.length,
      parkTime := s.time, deadline := s.time + BitVec.ofNat 32 timeout.wait, keyOffset := h.keyOffset, slot := h.slot,
      timer := timeout }
  let s := s.slotTo h.slot .parked
  let s : State := { s with re := { s.re with parks := s.re.parks ++ [r], parkNumber := nextNumber number } }
  let s := s.modResolution (fun c => c.park reason)
  s.reportParked r

/-- A frame that must be parked: it takes a place, or with 16 frames parked is turned away (R80). -/
def State.park (s : State) (h : HandedFrame) (key : Half) (reason : ParkReason) : State :=
  if s.re.parks.length < Config.parkPlaces then s.parkFrame h key reason
  else if reason = .order ∨ h.overflow = .drop then (s.lose .re .parkFull h.line).freeSlot h.slot
  else s.toDefault h.slot h.defaultQueue

/-- A frame leaves the Park List: its record is removed (R76). -/
def State.unpark (s : State) (number : Half) : State :=
  { s with re := { s.re with parks := s.re.parks.filter (fun r => r.number != number) } }

/-- The parked frame as RE dispatches it. -/
def ParkRecord.resolved (r : ParkRecord) : Resolved := { slot := r.slot, keyOffset := r.keyOffset, width := r.width }

/-- A parked frame takes a new reason in its place (R56, R87). -/
def State.setReason (s : State) (number : Half) (reason : ParkReason) : State :=
  let parks := s.re.parks.map (fun r => if r.number == number then { r with reason := reason } else r)
  { s with re := { s.re with parks := parks } }

/-! ### The cascade (R86, R87) -/

/-- A cascaded frame that finds no ACTIVE entry becomes its group's head in its place (R87). -/
def State.newHead (s : State) (r : ParkRecord) (reason : ParkReason) : State :=
  (s.setReason r.number reason).reportParked { r with reason := reason }

/-- The cascade of a group (R86): its frames are looked up oldest first and dispatched until one becomes the new head or
none is left. Every round but the last removes a frame, so `fuel` above the number of parked frames is never spent. The
result counts the frames re-resolved. -/
def State.cascadeLoop (line : LineNo) (width : KeyWidth) (key : Half) : Nat → State → State × Nat
  | 0, s => (s, 0)
  | fuel + 1, s =>
    match s.oldestOf line width key with
    | none => (s, 0)
    | some r =>
      let s := s.modResolution (fun c => { c with cascaded := satInc c.cascaded })
      match s.lookup r.key r.width r.domain with
      | none => (s.newHead r .miss, 1)
      | some i =>
        match s.route i with
        | none => (s, 1)
        | some e =>
          let s := s.countMatch i
          match e.state with
          | .suspended => (s.newHead r (.suspended i), 1)
          | .active =>
            let s := s.modResolution (fun c => { c with departures := satInc c.departures })
            let s := (s.unpark r.number).slotTo r.slot .withRE
            let (s, k) := State.cascadeLoop line width key fuel (s.dispatch r.resolved i e)
            (s, k + 1)

/-- The cascade of the group of a head that has left the park (R86). -/
def State.cascade (s : State) (r : ParkRecord) : State × Nat :=
  State.cascadeLoop r.line r.width r.key (s.re.parks.length + 1) s

/-! ### Releasing through an entry (R55) -/

/-- The frames eligible for an entry are released oldest first, each followed by its group's cascade (R55). The result
counts the frames released and cascaded. -/
def State.releaseLoop (i : RouteNo) (eligible : ParkRecord → Bool) : Nat → State → State × Nat × Nat
  | 0, s => (s, 0, 0)
  | fuel + 1, s =>
    match s.re.parks.find? eligible, s.route i with
    | some r, some e =>
      let s := (s.unpark r.number).slotTo r.slot .withRE
      let s := s.countMatch i
      let s := s.dispatch r.resolved i e
      let (s, k) := s.cascade r
      let (s, released, cascaded) := State.releaseLoop i eligible fuel s
      (s, released + 1, cascaded + k)
    | _, _ => (s, 0, 0)

/-- Every frame eligible for the entry is released, and the frames-released counter rises by their number (R55, R65). -/
def State.releaseThrough (s : State) (i : RouteNo) (eligible : ParkRecord → Bool) : State × Nat × Nat :=
  let (s, released, cascaded) := State.releaseLoop i eligible (s.re.parks.length + 1) s
  (s.modTable (fun c => { c with released := satAdd c.released released }), released, cascaded)

/-! ### FRAME_TAKEN (R67 to R70) -/

/-- A short frame is disposed of by its short policy (R68). -/
def State.takeShort (s : State) (h : HandedFrame) : State :=
  match h.shortPolicy with
  | .discard => (s.lose .re .keyShort h.line).freeSlot h.slot
  | .default => s.toDefault h.slot h.defaultQueue

/-- A keyed frame: the order hold, then the lookup (R69, R70). -/
def State.takeKeyed (s : State) (h : HandedFrame) (key : Half) : State :=
  let s := s.modRecord h.slot (fun r => { r with key := key, keyPresent := true })
  if (s.oldestOf h.line h.keyWidth key).isSome then s.park h key .order
  else
    match s.lookup key h.keyWidth h.domain with
    | none => s.park h key .miss
    | some i =>
      match s.route i with
      | none => s
      | some e =>
        let s := s.countMatch i
        match e.state with
        | .suspended => s.park h key (.suspended i)
        | .active => s.dispatch { slot := h.slot, keyOffset := h.keyOffset, width := h.keyWidth } i e

/-- RE takes the oldest frame a unit has handed to it (R67). -/
def State.takeFrame (s : State) (n : LineNo) : State :=
  match s.re.handed.find? (fun h => h.line == n) with
  | none => s
  | some h =>
    let s : State := { s with re := { s.re with handed := s.re.handed.eraseP (fun h => h.line == n) } }
    let s := s.modResolution (fun c => { c with taken := satInc c.taken })
    match keyOf (s.slot h.slot).data h.keyOffset h.keyWidth with
    | none => s.takeShort h
    | some key => s.takeKeyed h key

/-- FRAME_TAKEN (R67); nothing when the unit has handed no frame (log 2). -/
def execFrameTaken (n : LineNo) (s : State) : Host.Outcome State Fault Refusal := .next (s.takeFrame n)

/-! ### PARK_TIMER_EXPIRY (R83) -/

/-- A parked frame expires (R83): it leaves the park, is lost and reported, and a head's group cascades. -/
def State.expireParked (s : State) (r : ParkRecord) : State :=
  let s := (s.unpark r.number).freeSlot r.slot
  let s := s.lose .re .parkExpired r.line
  let s := s.modResolution (fun c => { c with expired := satInc c.expired })
  let s := s.raise .re (.parkExpired r.number r.line r.key r.reason)
  if r.reason = .order then s else (s.cascade r).1

/-- The parked frame with a number. -/
def State.parkedAs (s : State) (number : Half) : Option ParkRecord := s.re.parks.find? (fun r => r.number == number)

/-- PARK_TIMER_EXPIRY (R83). -/
def execParkTimerExpiry (number : Half) (s : State) (after : Nat := 0) : Host.Outcome State Fault Refusal :=
  .next (s.expire after (fun s => (s.parkedAs number).map ParkRecord.timer) fun s =>
    match s.parkedAs number with
    | some r => s.expireParked r
    | none => s)

end Sys2Proof.Machine
end

