-- ==== Sys2Proof/Machine/Park.lean ====
section
/-! DEFINITION. The park requests (04_resolution_and_the_park_list.md): PARK_RESOLVE, PARK_SET and PARK_LIST. -/

namespace Sys2Proof.Machine

/-- PARK_RESOLVE outcomes (R85); DROPPED names its cause. -/
inductive ResolveOutcome where
  | placed | queued | discarded
  | dropped (cause : LossCause)
deriving DecidableEq, Repr

/-- The outcome and the drop cause, an optional item (R177). -/
def ResolveOutcome.bytes : ResolveOutcome → List Byte
  | .placed => [0, 0]
  | .queued => [1, 0]
  | .discarded => [2, 0]
  | .dropped cause => [3, 1, cause.code]

/-- A head is dispatched by the host's decision, with route origin HOST and no rewrite (R85). -/
def State.dispatchDecision (s : State) (i : SlotNo) : Decision → State × ResolveOutcome
  | .deliver q =>
    let (s, placed) := (s.setOrigin i .host).deliver i q
    (s, if placed then .placed else .dropped .queueFull)
  | .forward n =>
    let (s, placed) := (s.setOrigin i .host).forward i n .hostDecision
    (s, if placed then .queued else .dropped .forwardBlocked)
  | .discard => ((s.setOrigin i .host).discard i, .discarded)

/-- An accepted PARK_RESOLVE of the head (R85). -/
def State.resolveHead (s : State) (tag : Byte) (r : ParkRecord) (decision : Decision) : State :=
  let s := (s.unpark r.number).slotTo r.slot .withRE
  let s := s.modResolution (fun c => { c with hostResolved := satInc c.hostResolved })
  let (s, outcome) := s.dispatchDecision r.slot decision
  let (s, cascaded) := s.cascade r
  let newHead := (s.oldestOf r.line r.width r.key).map ParkRecord.number
  s.answer tag 0x28 .ok (le16 r.number ++ outcome.bytes ++ [byteOf cascaded] ++ optBytes le16 newHead)

/-- PARK_RESOLVE as RE takes it (R84, R85). -/
def State.resolvePark (s : State) (tag : Byte) (number : Half) (decision : Decision) : State :=
  match s.parkedAs number with
  | none => s.answer tag 0x28 .unknownPark []
  | some r =>
    if r.reason = .order then
      s.answer tag 0x28 .orderHeld (le16 (((s.oldestOf r.line r.width r.key).map ParkRecord.number).getD 0))
    else s.resolveHead tag r decision

/-- PARK_RESOLVE (R84, R85). -/
def execParkResolve (tag : Byte) (number : Half) (decision target : Byte) (s : State) (stage : Stage := .whole) :
    Host.Outcome State Fault Refusal :=
  .next (s.blockRequest stage (.parkResolve tag number decision target) tag 0x28
    (checkResolve number decision target) (fun _ => .re) fun d s => s.resolvePark tag number d)

/-- PARK_SET as RE takes it: the park timeout is replaced, and the old and the new are returned (R89). -/
def State.setParkTimeout (s : State) (tag : Byte) (timeout : Half) : State :=
  ({ s with re := { s.re with parkTimeout := timeout } } : State).answer tag 0x29 .ok
    (le16 s.re.parkTimeout ++ le16 timeout)

/-- PARK_SET (R89). -/
def execParkSet (tag : Byte) (timeout : Half) (s : State) (stage : Stage := .whole) : Host.Outcome State Fault Refusal :=
  .next (s.blockRequest stage (.parkSet tag timeout) tag 0x29 (checkParkSet timeout) (fun _ => .re)
    fun t s => s.setParkTimeout tag t)

/-- The results of PARK_LIST (R90, R175). -/
def State.parkResults (s : State) : List Byte :=
  le16 s.re.parkTimeout ++ [byteOf s.re.parks.length] ++ le16 s.re.parkNumber ++ s.re.parks.flatMap ParkRecord.bytes

/-- PARK_LIST as RE takes it (R90). -/
def State.listParks (s : State) (tag : Byte) : State := s.answer tag 0x2A .ok s.parkResults

/-- PARK_LIST (R90). -/
def execParkList (tag : Byte) (s : State) (stage : Stage := .whole) : Host.Outcome State Fault Refusal :=
  .next (s.blockRequest stage (.parkList tag) tag 0x2A (.ok ()) (fun _ => .re)
    fun _ s => s.listParks tag)

end Sys2Proof.Machine
end

