-- ==== Sys2Proof/Machine/Pool.lean ====
section
/-! DEFINITION. The requests of the Frame Pool (02_the_frame_pool.md): POOL_SET and POOL_GET. -/

namespace Sys2Proof.Machine

/-- POOL_SET as FP takes it (R42). -/
def State.poolSet (s : State) (tag : Byte) (n : LineNo) (quota : Nat) : State :=
  let old := s.quotaOf (.line n)
  let charge := s.charge (.line n)
  let s : State := { s with pool := { s.pool with quotas := s.pool.quotas.set n quota } }
  s.answer tag 0x18 .ok
    [byteOf n.val, byteOf old, byteOf quota, byteOf charge, flagByte (decide (quota ≤ charge))]

/-- POOL_SET (R42). -/
def execPoolSet (tag line quota : Byte) (s : State) (stage : Stage := .whole) : Host.Outcome State Fault Refusal :=
  .next (s.blockRequest stage (.poolSet tag line quota) tag 0x18 (checkPoolSet line quota) (fun _ => .fp)
    fun (n, q) s => s.poolSet tag n q)

/-- The results of POOL_GET (R43). -/
def State.poolResults (s : State) : List Byte :=
  [byteOf s.freeSlots, byteOf (s.charge .host), byteOf Config.hostQuota]
    ++ (List.finRange 8).flatMap (fun n => [byteOf (s.charge (.line n)), byteOf (s.quotaOf (.line n))])

/-- POOL_GET (R43). -/
def execPoolGet (tag : Byte) (s : State) (stage : Stage := .whole) : Host.Outcome State Fault Refusal :=
  .next (s.blockRequest stage (.poolGet tag) tag 0x19 (.ok ()) (fun _ => .fp)
    fun _ s => s.answer tag 0x19 .ok s.poolResults)

end Sys2Proof.Machine
end

