-- ==== Sys2Proof/Machine/Routes.lean ====
section
/-! DEFINITION. The requests that change and read the Route Table (03_the_route_table.md): ROUTE_INSTALL, ROUTE_REMOVE,
ROUTE_STATE, ROUTE_FLUSH, ROUTE_PROBE and ROUTE_READ. -/

namespace Sys2Proof.Machine

/-! ### Re-marking (R56, R58, R59) -/

/-- Every parked frame the test picks takes a new reason in its place. -/
def State.remark (s : State) (picks : ParkRecord → Bool) (reason : ParkReason) : State :=
  { s with re := { s.re with parks := s.re.parks.map (fun r => if picks r then { r with reason := reason } else r) } }

/-- The park numbers of the frames the test picks. -/
def State.picked (s : State) (picks : ParkRecord → Bool) : List Half :=
  (s.re.parks.filter picks).map ParkRecord.number

/-- The frame is parked SUSPENDED on the entry. -/
def ParkRecord.heldOn (r : ParkRecord) (i : RouteNo) : Bool := r.reason == .suspended i

/-- The frame is parked MISS and the entry matches it. -/
def ParkRecord.missing (r : ParkRecord) (e : RouteEntry) : Bool := r.reason == .miss && e.serves r.key r.width r.domain

/-! ### ROUTE_INSTALL (R51 to R57) -/

/-- The refusals of R51 that RE makes, with the position. -/
def InstallParams.misfit (p : InstallParams) : Option Nat :=
  if p.width = .one ∧ 255 < p.key.toNat then some 2
  else
    match p.rewrite, p.action with
    | none, _ => none
    | some _, .deliver _ => some 8
    | some _, .discard => some 8
    | some v, _ => if p.width = .one ∧ 255 < v.toNat then some 8 else none

/-- The lowest FREE index (R52). -/
def State.freeRoute (s : State) : Option RouteNo := (List.finRange 48).find? (fun i => (s.route i).isNone)

/-- Among the indexes, the unpinned entry with the smallest stamp, the lowest index where stamps are equal (R52). -/
def State.victimOf (s : State) : List RouteNo → Option (RouteNo × Stamp)
  | [] => none
  | i :: rest =>
    match s.route i, s.victimOf rest with
    | some e, some (j, stamp) =>
      if e.pinned then some (j, stamp) else if e.stamp.toNat ≤ stamp.toNat then some (i, e.stamp) else some (j, stamp)
    | some e, none => if e.pinned then none else some (i, e.stamp)
    | none, later => later

/-- The target of an install; none is TABLE_FULL (R52). -/
def State.installTarget (s : State) (index : Option RouteNo) : Option RouteNo :=
  match index with
  | some i => some i
  | none =>
    match s.freeRoute with
    | some i => some i
    | none => (s.victimOf (List.finRange 48)).map Prod.fst

/-- Two entries for one width and key conflict when their scopes are equal or either is SHARED (R49). -/
def Scope.clashes (a b : Scope) : Bool := a == b || a == .shared || b == .shared

/-- The lowest index, other than the target, of an in-use entry the new one conflicts with (R49, R53). -/
def State.conflictWith (s : State) (target : RouteNo) (p : InstallParams) : Option RouteNo :=
  (List.finRange 48).find? (fun j => j != target &&
    match s.route j with
    | some e => e.width == p.width && e.key == p.key && e.scope.clashes p.scope
    | none => false)

/-- The new entry, stamped by the install (R50, R54). -/
def InstallParams.entry (p : InstallParams) (stamp : Stamp) : RouteEntry :=
  { key := p.key, width := p.width, scope := p.scope, action := p.action, rewrite := p.rewrite, pinned := p.pinned
    state := p.state, hits := 0, stamp := stamp }

/-- The victim item of the reply (R57). -/
def RouteEntry.victimBytes (e : RouteEntry) : List Byte :=
  le16 e.key ++ [e.width.code, e.scope.code, e.state.code, flagByte e.pinned]

/-- The entry is written at the target and the use counter advances (R50, R54). -/
def State.writeEntry (s : State) (i : RouteNo) (p : InstallParams) : State :=
  let stamp := satInc s.re.useCounter
  let replaced := (s.route i).isSome
  let s := s.setRoute i (some (p.entry stamp))
  let s : State := { s with re := { s.re with useCounter := stamp } }
  s.modTable (fun c => { c with
    installs := satInc c.installs, replaced := if replaced then satInc c.replaced else c.replaced })

/-- What an install does to the Park List (R56): frames of the replaced entry become MISS; a new ACTIVE entry releases
the MISS frames it matches; a new SUSPENDED entry re-marks them. The result gives released, cascaded and re-marked. -/
def State.settleParked (s : State) (i : RouteNo) (p : InstallParams) : State × Nat × Nat × Nat :=
  let e := p.entry 0
  let first := s.picked (fun r => r.heldOn i)
  let s := s.remark (fun r => r.heldOn i) .miss
  let second := match p.state with
    | .active => []
    | .suspended => s.picked (fun r => r.missing e)
  let (s, released, cascaded) := match p.state with
    | .active => s.releaseThrough i (fun r => r.missing e)
    | .suspended => (s.remark (fun r => r.missing e) (.suspended i), 0, 0)
  let remarked := s.re.parks.countP (fun r => first.contains r.number || second.contains r.number)
  (s.modTable (fun c => { c with remarked := satAdd c.remarked remarked }), released, cascaded, remarked)

/-- ROUTE_INSTALL as RE takes it (R51 to R57). -/
def State.install (s : State) (tag : Byte) (p : InstallParams) : State :=
  match p.misfit with
  | some position => s.answer tag 0x20 .badParam [byteOf position]
  | none =>
    match s.installTarget p.index with
    | none => (s.modTable (fun c => { c with refusedFull := satInc c.refusedFull })).answer tag 0x20 .tableFull []
    | some i =>
      match s.conflictWith i p with
      | some j =>
        (s.modTable (fun c => { c with refusedConflict := satInc c.refusedConflict })).answer tag 0x20 .conflict
          [byteOf j.val]
      | none =>
        let victim := s.route i
        let (s, released, cascaded, remarked) := (s.writeEntry i p).settleParked i p
        s.answer tag 0x20 .ok
          (byteOf i.val :: optBytes RouteEntry.victimBytes victim ++ [byteOf released, byteOf cascaded, byteOf remarked])

/-- ROUTE_INSTALL (R54). -/
def execRouteInstall (tag : Byte) (route : RawRoute) (s : State) (stage : Stage := .whole) :
    Host.Outcome State Fault Refusal :=
  .next (s.blockRequest stage (.routeInstall tag route) tag 0x20 (checkInstall route) (fun _ => .re)
    fun p s => s.install tag p)

/-! ### ROUTE_REMOVE and ROUTE_FLUSH (R58, R59) -/

/-- An entry becomes FREE and the frames parked SUSPENDED on it become MISS; the result counts them (R58). -/
def State.removeEntry (s : State) (i : RouteNo) : State × Nat :=
  let k := (s.picked (fun r => r.heldOn i)).length
  let s := (s.setRoute i none).remark (fun r => r.heldOn i) .miss
  (s.modTable (fun c => { c with removed := satInc c.removed, remarked := satAdd c.remarked k }), k)

/-- The entry a ROUTE_REMOVE names, its scope compared for equality (R58). -/
def State.removeTarget (s : State) (p : RemoveParams) : Option RouteNo :=
  match p with
  | .byIndex i => if (s.route i).isSome then some i else none
  | .byKey key width scope =>
    (List.finRange 48).find? (fun i =>
      match s.route i with
      | some e => e.key == key && e.width == width && e.scope == scope
      | none => false)

/-- The removal of the entry found, or NO_ENTRY (R58). -/
def State.removeFound (s : State) (tag : Byte) : Option RouteNo → State
  | none => s.answer tag 0x21 .noEntry []
  | some i =>
    let (s, k) := s.removeEntry i
    s.answer tag 0x21 .ok [byteOf i.val, byteOf k]

/-- ROUTE_REMOVE as RE takes it (R58). -/
def State.removeRoute (s : State) (tag : Byte) (p : RemoveParams) : State :=
  match p with
  | .byKey key .one _ =>
    if 255 < key.toNat then s.answer tag 0x21 .badParam [2] else s.removeFound tag (s.removeTarget p)
  | _ => s.removeFound tag (s.removeTarget p)

/-- ROUTE_REMOVE (R58). -/
def execRouteRemove (tag : Byte) (target : RawRemove) (s : State) (stage : Stage := .whole) :
    Host.Outcome State Fault Refusal :=
  .next (s.blockRequest stage (.routeRemove tag target) tag 0x21 (checkRemove target) (fun _ => .re)
    fun p s => s.removeRoute tag p)

/-- The scope of a flush takes in the scope of an entry (R59). -/
def FlushScope.covers (f : FlushScope) (sc : Scope) : Bool :=
  match f with
  | .only x => x == sc
  | .all => true

/-- One index of a flush: the state, and the counts removed, kept pinned and re-marked so far (R59). -/
def State.flushIndex (scope : FlushScope) (force : Bool) (acc : State × Nat × Nat × Nat) (i : RouteNo) :
    State × Nat × Nat × Nat :=
  let (s, removed, kept, remarked) := acc
  match s.route i with
  | none => acc
  | some e =>
    if !scope.covers e.scope then acc
    else if e.pinned && !force then (s, removed, kept + 1, remarked)
    else
      let (s, k) := s.removeEntry i
      (s, removed + 1, kept, remarked + k)

/-- ROUTE_FLUSH as RE takes it, index by index (R59). -/
def State.flushRoutes (s : State) (tag : Byte) (scope : FlushScope) (force : Bool) : State :=
  let (s, removed, kept, remarked) := (List.finRange 48).foldl (State.flushIndex scope force) (s, 0, 0, 0)
  s.answer tag 0x23 .ok [byteOf removed, byteOf kept, byteOf remarked]

/-- ROUTE_FLUSH (R59). -/
def execRouteFlush (tag scope force : Byte) (s : State) (stage : Stage := .whole) : Host.Outcome State Fault Refusal :=
  .next (s.blockRequest stage (.routeFlush tag scope force) tag 0x23 (checkFlush scope force) (fun _ => .re)
    fun (sc, f) s => s.flushRoutes tag sc f)

/-! ### ROUTE_STATE (R60, R61) -/

/-- The reply of ROUTE_STATE (R60, R61, R177). -/
def State.answerRouteState (s : State) (tag : Byte) (i : RouteNo) (released cascaded : Nat) : State :=
  s.answer tag 0x22 .ok [byteOf i.val, entryStateCode (s.route i), byteOf released, byteOf cascaded]

/-- The state of an in-use entry set; its other fields stay (R60, R61). -/
def State.setEntryState (s : State) (i : RouteNo) (st : EntryState) : State :=
  s.setRoute i ((s.route i).map (fun e => { e with state := st }))

/-- ROUTE_STATE SUSPEND as RE takes it (R60). -/
def State.suspendRoute (s : State) (tag : Byte) (i : RouteNo) : State :=
  match s.route i with
  | none => s.answer tag 0x22 .noEntry []
  | some _ => (s.setEntryState i .suspended).answerRouteState tag i 0 0

/-- ROUTE_STATE with SUSPEND (R60). -/
def execRouteStateSuspend (tag index : Byte) (s : State) (stage : Stage := .whole) : Host.Outcome State Fault Refusal :=
  .next (s.blockRequest stage (.routeStateSuspend tag index) tag 0x22 (checkIndex index) (fun _ => .re)
    fun i s => s.suspendRoute tag i)

/-- ROUTE_STATE RESUME as RE takes it: a SUSPENDED entry becomes ACTIVE and releases the frames parked on it (R61). -/
def State.resumeRoute (s : State) (tag : Byte) (i : RouteNo) : State :=
  match s.route i with
  | none => s.answer tag 0x22 .noEntry []
  | some e =>
    match e.state with
    | .active => s.answerRouteState tag i 0 0
    | .suspended =>
      let (s, released, cascaded) := (s.setEntryState i .active).releaseThrough i (fun r => r.heldOn i)
      s.answerRouteState tag i released cascaded

/-- ROUTE_STATE with RESUME (R61). -/
def execRouteStateResume (tag index : Byte) (s : State) (stage : Stage := .whole) : Host.Outcome State Fault Refusal :=
  .next (s.blockRequest stage (.routeStateResume tag index) tag 0x22 (checkIndex index) (fun _ => .re)
    fun i s => s.resumeRoute tag i)

/-! ### Reading (R62, R63) -/

/-- ROUTE_PROBE as RE takes it (R62). -/
def State.probeRoute (s : State) (tag : Byte) (key : Half) (width : KeyWidth) (d : Domain) : State :=
  if width = .one ∧ 255 < key.toNat then s.answer tag 0x24 .badParam [1]
  else
    match s.lookup key width d with
    | none => s.answer tag 0x24 .notFound []
    | some i => s.answer tag 0x24 .ok [byteOf i.val, entryStateCode (s.route i)]

/-- ROUTE_PROBE (R62). -/
def execRouteProbe (tag : Byte) (key : Half) (width domain : Byte) (s : State) (stage : Stage := .whole) :
    Host.Outcome State Fault Refusal :=
  .next (s.blockRequest stage (.routeProbe tag key width domain) tag 0x24 (checkProbe width domain) (fun _ => .re)
    fun (w, d) s => s.probeRoute tag key w d)

/-- The number of frames parked SUSPENDED on an entry (R63). -/
def State.heldCount (s : State) (i : RouteNo) : Nat := s.re.parks.countP (fun r => r.heldOn i)

/-- ROUTE_READ as RE takes it (R63). -/
def State.readRoute (s : State) (tag : Byte) (i : RouteNo) : State :=
  s.answer tag 0x25 .ok (routeRecord i (s.route i) (s.heldCount i))

/-- ROUTE_READ (R63). -/
def execRouteRead (tag index : Byte) (s : State) (stage : Stage := .whole) : Host.Outcome State Fault Refusal :=
  .next (s.blockRequest stage (.routeRead tag index) tag 0x25 (checkIndex index) (fun _ => .re)
    fun i s => s.readRoute tag i)

end Sys2Proof.Machine
end

