-- ==== Sys2Proof/Machine/HostBytes.lean ====
section
/-! DEFINITION. The receiver of the Host Link byte by byte (R146, R147): what HOST_BYTE_RECEIVED does, up to the request
that a complete packet holds. -/

namespace Sys2Proof.Machine

/-- The codes that need no session (R152 step 2). -/
def needsSession (code : Byte) : Bool := !(code == 0x01 || code == 0x04 || code == 0x05)

/-- A request that the walk of R174 has read is taken as its own command, up to its hand-over to the block that owns it. -/
def takeDecoded (i : Instr) (s : State) : Host.Outcome State Fault Refusal :=
  match i with
  | .openSession tag .hl => execOpen tag s
  | .closeSession tag => execClose tag s
  | .cancel tag target _ => execCancel tag target s .accept
  | .identify tag => execIdentify tag s
  | .resetRequest tag => execResetRequest tag s
  | .arm tag line plan _ => execArm tag line plan s .accept
  | .disarm tag line how _ => execDisarm tag line how s .accept
  | .captureGet tag line _ => execCaptureGet tag line s .accept
  | .poolSet tag line quota _ => execPoolSet tag line quota s .accept
  | .poolGet tag _ => execPoolGet tag s .accept
  | .routeInstall tag route _ => execRouteInstall tag route s .accept
  | .routeRemove tag target _ => execRouteRemove tag target s .accept
  | .routeStateSuspend tag index _ => execRouteStateSuspend tag index s .accept
  | .routeStateResume tag index _ => execRouteStateResume tag index s .accept
  | .routeFlush tag scope force _ => execRouteFlush tag scope force s .accept
  | .routeProbe tag key width domain _ => execRouteProbe tag key width domain s .accept
  | .routeRead tag index _ => execRouteRead tag index s .accept
  | .parkResolve tag number decision target _ => execParkResolve tag number decision target s .accept
  | .parkSet tag timeout _ => execParkSet tag timeout s .accept
  | .parkList tag _ => execParkList tag s .accept
  | .fetch tag queue max wait _ => execFetch tag queue max wait s .accept
  | .release tag queue numbers _ => execRelease tag queue numbers s .accept
  | .returnFrames tag queue numbers _ => execReturn tag queue numbers s .accept
  | .queueSet tag queue capacity notify _ => execQueueSet tag queue capacity notify s .accept
  | .queueGet tag queue _ => execQueueGet tag queue s .accept
  | .transmit tag line data preQuiet notify _ => execTransmit tag line data preQuiet notify s .accept
  | .flushTx tag line _ => execFlushTx tag line s .accept
  | .lineSet tag line config drainLimit _ => execLineSet tag line config drainLimit s .accept
  | .lineGet tag line _ => execLineGet tag line s .accept
  | .ackReports tag sequence _ => execAckReports tag sequence s .accept
  | .resendReports tag _ => execResendReports tag s .accept
  | .stats tag selector operand clear (.request _) => execStats tag selector operand clear s (.request .accept)
  | .unknownRequest tag code => execUnknownRequest tag code s
  | _ => .next s

/-- A request packet that passes R147 is accepted or refused and validated, and carried out by HL or handed to its block (R150 to R153). -/
def State.takePacket (s : State) (tag : Byte) (payload : List Byte) : Host.Outcome State Fault Refusal :=
  match decodePayload tag payload with
  | .unknown code => .next (s.unknownRequest tag code)
  | .badLength code => .next (s.request tag code (needsSession code) (.error .badLength) fun (_ : Unit) s => s)
  | .badParam code position =>
    .next (s.request tag code (needsSession code) (badAt position) fun (_ : Unit) s => s)
  | .request i => takeDecoded i s

/-- A complete packet is checked (R147): `kept` holds its length and body bytes. -/
def State.checkPacket (s : State) (kept : List Byte) (check : Half) : Host.Outcome State Fault Refusal :=
  if crc16 kept ≠ check then .next (s.discardPacket .check)
  else
    match kept with
    | _ :: _ :: kind :: tag :: payload => if kind ≠ 1 then .next (s.discardPacket .kind) else s.takePacket tag payload
    | _ => .next (s.discardPacket .kind)

/-- The gap timer, just started (R146, R148). -/
def hostGapTimer : Timer := msTimer Config.hostGapMs

/-- The receiver keeps a byte, goes to a state and restarts the gap timer (R146). -/
def State.keepByte (s : State) (b : Byte) (rx : LinkRxState) : State :=
  { s with hl := { s.hl with rx := rx, kept := s.hl.kept ++ [b], gapTimer := some hostGapTimer } }

/-- The length of the packet under way, from its two kept length bytes (R145, R146). -/
def packetLength : List Byte → Nat
  | lo :: hi :: _ => (half lo hi).toNat
  | _ => 0

/-- A byte taken in HUNT_SYNC (R146). -/
def State.huntByte (s : State) (b : Byte) : State :=
  if b = Config.sync then
    { s with hl := { s.hl with rx := .length, kept := [], gapTimer := some hostGapTimer } }
  else { s with hl := { s.hl with counters := { s.hl.counters with bytesSkipped := satInc s.hl.counters.bytesSkipped } } }

/-- A byte taken in LENGTH (R146). -/
def State.lengthByte (s : State) (b : Byte) : State :=
  if s.hl.kept.isEmpty then s.keepByte b .length
  else
    let length := packetLength (s.hl.kept ++ [b])
    if 2 ≤ length ∧ length ≤ 1026 then s.keepByte b .body else s.discardPacket .length

/-- A byte taken in BODY (R146). -/
def State.bodyByte (s : State) (b : Byte) : State :=
  s.keepByte b (if s.hl.kept.length + 1 = packetLength s.hl.kept + 2 then .check else .body)

/-- A byte taken in CHECK (R146): the first is kept, the second completes the packet. -/
def State.checkByte (s : State) (b : Byte) : Host.Outcome State Fault Refusal :=
  match s.hl.kept.drop (packetLength s.hl.kept + 2) with
  | [] => .next (s.keepByte b .check)
  | high :: _ => s.checkPacket (s.hl.kept.take (packetLength s.hl.kept + 2)) (half b high)

/-- A byte is taken by the state of the receiver (R146). -/
def State.takeByte (s : State) (value : Byte) : Host.Outcome State Fault Refusal :=
  match s.hl.rx with
  | .huntSync => .next (s.huntByte value)
  | .length => .next (s.lengthByte value)
  | .body => .next (s.bodyByte value)
  | .check => s.checkByte value

/-- HOST_BYTE_RECEIVED (R144, R146): a byte is taken with its value whatever its stop bit, but after a stop bit at space none
until RXD has returned to mark; nothing while HL ignores its input. -/
def execHostByteReceived (value : Byte) (s : State) (stopBit : Bool := true) (fromMark : Bool := true) :
    Host.Outcome State Fault Refusal :=
  if s.hl.ignoring || (s.hl.rxSpace && !fromMark) then .next s
  else ({ s with hl := { s.hl with rxSpace := !stopBit } } : State).takeByte value

end Sys2Proof.Machine
end

