-- ==== Sys2Proof/Machine/Dispatch.lean ====
section
/-! DEFINITION. The meaning of every command, one arm per constructor of `Instr`. -/

namespace Sys2Proof.Machine

/-- The effect of a command on everything but the queue of waiting commands. -/
def exec (i : Instr) (s : State) : Host.Outcome State Fault Refusal :=
  match i with
  | .powerUp straps => Sys2Proof.Machine.execPowerUp straps s
  | .resetPin straps => Sys2Proof.Machine.execResetPin straps s
  | .packetDiscarded why => Sys2Proof.Machine.execPacketDiscarded why s
  | .hostGapExpiry after => Sys2Proof.Machine.execHostGapExpiry s after
  | .packetSent straps event => Sys2Proof.Machine.execPacketSent straps s event
  | .openSession tag taker => Sys2Proof.Machine.execOpen tag s taker
  | .closeSession tag => Sys2Proof.Machine.execClose tag s
  | .sessionEnd taker => Sys2Proof.Machine.execSessionEnd s taker
  | .cancel tag target stage => Sys2Proof.Machine.execCancel tag target s stage
  | .identify tag => Sys2Proof.Machine.execIdentify tag s
  | .resetRequest tag => Sys2Proof.Machine.execResetRequest tag s
  | .arm tag line plan stage => Sys2Proof.Machine.execArm tag line plan s stage
  | .disarm tag line how stage => Sys2Proof.Machine.execDisarm tag line how s stage
  | .captureGet tag line stage => Sys2Proof.Machine.execCaptureGet tag line s stage
  | .poolSet tag line quota stage => Sys2Proof.Machine.execPoolSet tag line quota s stage
  | .poolGet tag stage => Sys2Proof.Machine.execPoolGet tag s stage
  | .routeInstall tag route stage => Sys2Proof.Machine.execRouteInstall tag route s stage
  | .routeRemove tag target stage => Sys2Proof.Machine.execRouteRemove tag target s stage
  | .routeStateSuspend tag index stage => Sys2Proof.Machine.execRouteStateSuspend tag index s stage
  | .routeStateResume tag index stage => Sys2Proof.Machine.execRouteStateResume tag index s stage
  | .routeFlush tag scope force stage => Sys2Proof.Machine.execRouteFlush tag scope force s stage
  | .routeProbe tag key width domain stage => Sys2Proof.Machine.execRouteProbe tag key width domain s stage
  | .routeRead tag index stage => Sys2Proof.Machine.execRouteRead tag index s stage
  | .parkResolve tag number decision target stage => Sys2Proof.Machine.execParkResolve tag number decision target s stage
  | .parkSet tag timeout stage => Sys2Proof.Machine.execParkSet tag timeout s stage
  | .parkList tag stage => Sys2Proof.Machine.execParkList tag s stage
  | .fetch tag queue max wait stage => Sys2Proof.Machine.execFetch tag queue max wait s stage
  | .release tag queue numbers stage => Sys2Proof.Machine.execRelease tag queue numbers s stage
  | .returnFrames tag queue numbers stage => Sys2Proof.Machine.execReturn tag queue numbers s stage
  | .queueSet tag queue capacity notify stage => Sys2Proof.Machine.execQueueSet tag queue capacity notify s stage
  | .queueGet tag queue stage => Sys2Proof.Machine.execQueueGet tag queue s stage
  | .transmit tag line data preQuiet notify stage => Sys2Proof.Machine.execTransmit tag line data preQuiet notify s stage
  | .flushTx tag line stage => Sys2Proof.Machine.execFlushTx tag line s stage
  | .lineSet tag line config drainLimit stage => Sys2Proof.Machine.execLineSet tag line config drainLimit s stage
  | .lineGet tag line stage => Sys2Proof.Machine.execLineGet tag line s stage
  | .ackReports tag sequence stage => Sys2Proof.Machine.execAckReports tag sequence s stage
  | .resendReports tag stage => Sys2Proof.Machine.execResendReports tag s stage
  | .stats tag selector operand clear taker => Sys2Proof.Machine.execStats tag selector operand clear s taker
  | .characterReceived line data parityBit stopBit => Sys2Proof.Machine.execCharacterReceived line data parityBit stopBit s
  | .candidateFramingCharacter line => Sys2Proof.Machine.execCandidateFraming line s
  | .breakDetected line => Sys2Proof.Machine.execBreakDetected line s
  | .breakEnd line => Sys2Proof.Machine.execBreakEnd line s
  | .quietTimerExpiry line after => Sys2Proof.Machine.execQuietTimerExpiry line s after
  | .gapTimerExpiry line after turnWaits => Sys2Proof.Machine.execGapTimerExpiry line s after turnWaits
  | .spanTimerExpiry line after turnWaits => Sys2Proof.Machine.execSpanTimerExpiry line s after turnWaits
  | .frameTaken line => Sys2Proof.Machine.execFrameTaken line s
  | .parkTimerExpiry number after => Sys2Proof.Machine.execParkTimerExpiry number s after
  | .waitTimerExpiry queue after => Sys2Proof.Machine.execWaitTimerExpiry queue s after
  | .preQuietExpiry line after => Sys2Proof.Machine.execPreQuietExpiry line s after
  | .characterSent line => Sys2Proof.Machine.execCharacterSent line s
  | .drainLimitExpiry line after => Sys2Proof.Machine.execDrainLimitExpiry line s after
  | .reportRaised source => Sys2Proof.Machine.execReportRaised source s
  | .lossHanded source taker => Sys2Proof.Machine.execLossHanded source s taker
  | .hostByteReceived value stopBit fromMark => Sys2Proof.Machine.execHostByteReceived value s stopBit fromMark
  | .unknownRequest tag code => Sys2Proof.Machine.execUnknownRequest tag code s
  | .startBit line glitch => Sys2Proof.Machine.execStartBit line glitch s
  | .returnToMark line => Sys2Proof.Machine.execReturnToMark line s

end Sys2Proof.Machine
end

