-- ==== Sys2Proof/Machine/Idle.lean ====
section
/-! DEFINITION. What the part does when no command waits (log 3). -/

namespace Sys2Proof.Machine

/-- The part by itself: a transmitter takes the turn that waits for it, or a timer whose latest moment has come expires, or a
microsecond passes (R1, log 3). -/
def idle (s : State) : Host.Outcome State Fault Refusal :=
  match (List.finRange 8).find? s.turnWaits with
  | some n => .next (s.turnFreed n)
  | none =>
    match s.overdue with
    | some c => exec c s
    | none => .next (s.elapse 1)

end Sys2Proof.Machine
end

