-- ==== Sys2Proof/Safety.lean ====
section
/-! DEFINITION. What claims about the part are stated in: the outgoing list, a request that will be accepted, the states
around a reply, and the invariants of a sound part, block by block. -/

namespace Sys2Proof.Machine

/-! ### Vocabulary -/

/-- The outgoing list (R160): the packet being sent, then those waiting, in order. -/
def State.outgoing (s : State) : List OutPacket := s.hl.sending.toList ++ s.hl.waiting

/-- A request with the tag would be accepted now (R150 steps 1 to 3, R158). -/
def Accepts (s : State) (tag : Byte) : Prop :=
  s.hl.ignoring = false ∧ tag ≠ 0 ∧ (∀ r ∈ s.hl.slots, r.tag ≠ tag) ∧ s.hl.slots.length < Config.requestSlots

/-- A request with the tag would be accepted and pass the session check (R152 step 2). -/
def Ready (s : State) (tag : Byte) : Prop := Accepts s tag ∧ s.hl.session = .opened

/-- A request with the tag would be accepted, pass the session check, and be taken at once by the block that owns it, since
nothing that HL handed that block before waits there (R153). -/
def ReadyAt (s : State) (tag : Byte) (b : Block) : Prop := Ready s tag ∧ s.nothingAhead b = true

/-- A request packet has been received (R146, R147): the receiver hunts and the requests taken are counted. -/
def State.heard (s : State) : State :=
  { s with hl := { s.hl with
    rx := .huntSync, kept := [], gapTimer := none
    counters := { s.hl.counters with requestsTaken := satInc s.hl.counters.requestsTaken } } }

/-- A request has been received and answered by HL itself, nothing else having changed (R151, R160, R177). -/
def State.replied (s : State) (tag code : Byte) (status : Status) (results : List Byte) : State :=
  s.heard.hand (replyPacket tag code status results)

/-- A request has been received and holds a slot (R151). -/
def State.holding (s : State) (tag code : Byte) : State :=
  { s.heard with hl := { s.heard.hl with slots := s.hl.slots ++ [⟨tag, code⟩] } }

/-- A request has been received and holds a slot, and the block that owns it has taken it and handed its reply to HL, nothing
else having changed (R151, R153, R177). -/
def State.answered (s : State) (tag code : Byte) (status : Status) (results : List Byte) : State :=
  (s.holding tag code).handToHL (replyPacket tag code status results)

/-- The tag and the request code of a command that is a request's acceptance (section 10.3). -/
def requestOf (i : Instr) : Option (Byte × Byte) :=
  (encodePayload i).map fun (tag, payload) => (tag, payload.headD 0)

/-- The command of the same request that stands for other happenings of it (R153). -/
def staged (stage : Stage) : Instr → Instr
  | .cancel tag target _ => .cancel tag target stage
  | .arm tag line plan _ => .arm tag line plan stage
  | .disarm tag line how _ => .disarm tag line how stage
  | .captureGet tag line _ => .captureGet tag line stage
  | .poolSet tag line quota _ => .poolSet tag line quota stage
  | .poolGet tag _ => .poolGet tag stage
  | .routeInstall tag route _ => .routeInstall tag route stage
  | .routeRemove tag target _ => .routeRemove tag target stage
  | .routeStateSuspend tag index _ => .routeStateSuspend tag index stage
  | .routeStateResume tag index _ => .routeStateResume tag index stage
  | .routeFlush tag scope force _ => .routeFlush tag scope force stage
  | .routeProbe tag key width domain _ => .routeProbe tag key width domain stage
  | .routeRead tag index _ => .routeRead tag index stage
  | .parkResolve tag number decision target _ => .parkResolve tag number decision target stage
  | .parkSet tag timeout _ => .parkSet tag timeout stage
  | .parkList tag _ => .parkList tag stage
  | .fetch tag queue max wait _ => .fetch tag queue max wait stage
  | .release tag queue numbers _ => .release tag queue numbers stage
  | .returnFrames tag queue numbers _ => .returnFrames tag queue numbers stage
  | .queueSet tag queue capacity notify _ => .queueSet tag queue capacity notify stage
  | .queueGet tag queue _ => .queueGet tag queue stage
  | .transmit tag line data preQuiet notify _ => .transmit tag line data preQuiet notify stage
  | .flushTx tag line _ => .flushTx tag line stage
  | .lineSet tag line config drainLimit _ => .lineSet tag line config drainLimit stage
  | .lineGet tag line _ => .lineGet tag line stage
  | .ackReports tag sequence _ => .ackReports tag sequence stage
  | .resendReports tag _ => .resendReports tag stage
  | .stats tag selector operand clear (.request _) => .stats tag selector operand clear (.request stage)
  | i => i

/-- The block of the line that a request names, if it names one. -/
def ofLine (block : LineNo → Block) (line : Byte) : Option Block :=
  if h : line.toNat < 8 then some (block ⟨line.toNat, h⟩) else none

/-- The block that owns a request, by the table of R153; none for the requests of HL and for other commands. -/
def requestOwner : Instr → Option Block
  | .arm _ line _ _ | .disarm _ line _ _ | .captureGet _ line _ => ofLine .cu line
  | .poolSet _ _ _ _ | .poolGet _ _ => some .fp
  | .routeInstall _ _ _ | .routeRemove _ _ _ | .routeStateSuspend _ _ _ | .routeStateResume _ _ _ | .routeFlush _ _ _ _
  | .routeProbe _ _ _ _ _ | .routeRead _ _ _ | .parkResolve _ _ _ _ _ | .parkSet _ _ _ | .parkList _ _ => some .re
  | .fetch _ _ _ _ _ | .release _ _ _ _ | .returnFrames _ _ _ _ | .queueSet _ _ _ _ _ | .queueGet _ _ _ => some .qm
  | .transmit _ line _ _ _ _ | .flushTx _ line _ | .lineSet _ line _ _ _ | .lineGet _ line _ => ofLine .lp line
  | .ackReports _ _ _ | .resendReports _ _ | .stats _ _ _ _ (.request _) => some .ru
  | _ => none

/-- A slot-free refusal (R150): the request is counted, and the refusal joins the outgoing list unless one waits there. -/
def State.refused (s : State) (tag code : Byte) (status : Status) : State :=
  if s.hl.waiting.any (fun p => p.kind == .refusal) then
    { s.heard with hl := { s.heard.hl with counters :=
      { s.heard.hl.counters with refusalsNotSent := satInc s.heard.hl.counters.refusalsNotSent } } }
  else s.heard.hand { kind := .refusal, tag := tag, payload := [code, status.code] }

/-- RXD is at mark (R144). -/
def State.rxdAtMark (s : State) : State := { s with hl := { s.hl with rxSpace := false } }

/-- Undamaged bytes received on RXD one after another (R144). -/
def feed : List Byte → State → Host.Outcome State Fault Refusal
  | [], s => .next s
  | b :: rest, s =>
    match exec (.hostByteReceived b true true) s with
    | .next t => feed rest t
    | stop => stop

/-- What a discard leaves (R148, R149): the receiver hunts with nothing kept, the discard is counted, and a notice joins the
outgoing list, or is counted as not sent behind one that waits. Nothing else changes. -/
def Discarded (s t : State) (cause : DiscardCause) : Prop :=
  { t with hl := s.hl } = s
    ∧ t.hl.rx = .huntSync ∧ t.hl.kept = [] ∧ t.hl.gapTimer = none
    ∧ { t.hl with
        rx := s.hl.rx, kept := s.hl.kept, gapTimer := s.hl.gapTimer, counters := s.hl.counters, sending := s.hl.sending
        waiting := s.hl.waiting, noticesUnsent := s.hl.noticesUnsent } = s.hl
    ∧ if s.hl.waiting.any (fun p => p.kind == .notice) then
        t.outgoing = s.outgoing ∧ t.hl.noticesUnsent = satInc s.hl.noticesUnsent
          ∧ t.hl.counters = { s.hl.counters.discard cause with noticesNotSent := satInc s.hl.counters.noticesNotSent }
      else
        t.outgoing = s.outgoing ++ [{ kind := .notice, tag := 0, payload := cause.code :: le16 s.hl.noticesUnsent }]
          ∧ t.hl.noticesUnsent = 0 ∧ t.hl.counters = s.hl.counters.discard cause

/-- The replies to the held fetches that a session end cancels, in queue order (R99, R109). -/
def State.cancelledReplies (s : State) : List OutPacket :=
  (List.finRange 8).flatMap (fun q => (s.queue q).held.toList.map (fun h =>
    replyPacket h.tag 0x30 .cancelled
      [byteOf q.val, 0, byteOf ((s.queue q).lent.length + (s.queue q).waiting.length), 0]))

/-- The tag of the LINE_SET that a line's drain still answers (R128). -/
def LinePort.attachedTag (p : LinePort) : Option Byte :=
  match p.drain.map Drain.requester with
  | some (.attached tag) => some tag
  | _ => none

/-- The packet of the reply to an OPEN whose session open has been taken, with the parked frames RE counted (R154). -/
def State.openReply (s : State) (o : SessionOpening) (parked : Nat) : OutPacket :=
  replyPacket o.tag 0x01 .ok
    ([s.hl.cause.code] ++ le32 o.takenAt ++ [byteOf parked, flagByte o.ended, 128, 48, 16, 8, 32, 4])

/-- A session open with the tag, just handed to RU and RE (R154). -/
def opens (tag : Byte) (takenAt : Time) (ended : Bool) : SessionOpening :=
  { tag := tag, takenAt := takenAt, ended := ended, reportsTaken := false, parked := none }

/-- What is left when the OPEN of `o` has just been carried out and the OPENs `waiting` have been taken in turn (R155, log
20): the first of them ends that session again, and the others go on waiting. -/
def HostLink.afterOpen (h : HostLink) (now : Time) (o : SessionOpening) (waiting : List Byte) : HostLink :=
  match waiting with
  | [] => { h with session := .opened, opening := some o, ending := none, opensWaiting := [] }
  | tag :: rest =>
    { h with
      session := .closed, opening := some o, ending := some { cause := .byOpen tag now }, opensWaiting := rest }

/-! ### Parameters as the host sends them (R172, section 10.3) -/

/-- The byte of a numbered place. -/
def placeByte {n : Nat} (i : Fin n) : Byte := byteOf i.val

/-- An optional item as sent. -/
def sendOpt {n : Nat} : Option (BitVec n) → OptItem (BitVec n)
  | none => ⟨0, 0⟩
  | some v => ⟨1, v⟩

/-- A capture plan as ARM carries it (R175). -/
def Plan.raw (p : Plan) : RawPlan :=
  { startForm := p.startForm.code, quiet := sendOpt p.quiet, lead := sendOpt p.lead, trail := sendOpt p.trail,
    gap := sendOpt p.gap, span := sendOpt p.span, limit := p.limit, errorPolicy := p.errorPolicy.code,
    again := p.again.code, keyOffset := placeByte p.keyOffset, keyWidth := p.keyWidth.code,
    shortPolicy := p.shortPolicy.code, overflow := p.overflow.code, defaultQueue := placeByte p.defaultQueue }

/-- The times and the limit of a plan are in range (section 1.2). -/
def Plan.InRange (p : Plan) : Prop :=
  p.quiet ≠ some 0 ∧ p.gap ≠ some 0 ∧ p.span ≠ some 0 ∧ p.limit ≠ 0

/-- A line configuration as LINE_SET carries it (R175). -/
def LineConfig.raw (c : LineConfig) : RawConfig :=
  { mode := c.mode.code, rate := c.rate.code, dataBits := c.dataBits.code, parity := c.parity.code,
    stopBits := c.stopBits.code, duplex := c.duplex.code, domain := placeByte c.domain }

/-- The index of an install as sent: 0xFF for AUTO (section 10.3). -/
def sendIndex : Option RouteNo → Byte
  | none => 0xFF
  | some i => placeByte i

/-- The parameters of ROUTE_INSTALL as sent. -/
def InstallParams.raw (p : InstallParams) : RawRoute :=
  { index := sendIndex p.index, key := p.key, width := p.width.code, scope := p.scope.code, action := p.action.code,
    actionLine := p.action.lineByte, actionQueue := p.action.queueByte, rewrite := sendOpt p.rewrite,
    pinned := flagByte p.pinned, state := p.state.code }

/-- The code of the partial parameter of DISARM. -/
def Partial.code : Partial → Byte
  | .keep => 0
  | .drop => 1

/-- The parameters of ROUTE_REMOVE as sent. -/
def RemoveParams.raw : RemoveParams → RawRemove
  | .byIndex i => .byIndex (placeByte i)
  | .byKey key width scope => .byKey 1 key width.code scope.code

/-- The scope of ROUTE_FLUSH as sent. -/
def FlushScope.code : FlushScope → Byte
  | .only scope => scope.code
  | .all => 17

/-- The decision and the target of PARK_RESOLVE as sent. -/
def Decision.code : Decision → Byte
  | .deliver _ => 0
  | .forward _ => 1
  | .discard => 2

def Decision.target : Decision → Byte
  | .deliver q => placeByte q
  | .forward n => placeByte n
  | .discard => 0

/-! ### Ranges of the items of a request (R174) -/

/-- The byte is below a bound. -/
def below (bound : Nat) (b : Byte) : Bool := decide (b.toNat < bound)

/-- The byte lies between two bounds. -/
def between (low high : Nat) (b : Byte) : Bool := decide (low ≤ b.toNat ∧ b.toNat ≤ high)

/-- An optional item is in range: its presence byte is 0, or 1 with a value in range (R174). -/
def optFits {n : Nat} (o : OptItem (BitVec n)) (value : BitVec n → Bool) : Bool :=
  o.presence == 0 || (o.presence == 1 && value o.value)

/-- The items of a capture plan (R175, section 1.2). -/
def planItems (p : RawPlan) : List (Nat × Bool) :=
  [(2, below 6 p.startForm), (3, optFits p.quiet (· != 0)), (4, optFits p.lead fun _ => true), (5, optFits p.trail fun _ => true),
    (6, optFits p.gap (· != 0)), (7, optFits p.span (· != 0)), (8, p.limit != 0), (9, below 2 p.errorPolicy), (10, below 2 p.again),
    (11, below 8 p.keyOffset), (12, between 1 2 p.keyWidth), (13, below 2 p.shortPolicy), (14, below 2 p.overflow),
    (15, below 8 p.defaultQueue)]

/-- The items of ROUTE_INSTALL: the line byte is used by FORWARD and MIRROR, the queue byte by DELIVER and MIRROR
(section 10.3). -/
def installItems (x : RawRoute) : List (Nat × Bool) :=
  [(1, below 48 x.index || x.index == 0xFF), (3, between 1 2 x.width), (4, below 17 x.scope), (5, below 4 x.action),
    (6, if x.action = 1 ∨ x.action = 2 then below 8 x.actionLine else x.actionLine == 0),
    (7, if x.action = 0 ∨ x.action = 2 then below 8 x.actionQueue else x.actionQueue == 0),
    (8, optFits x.rewrite fun _ => true), (9, below 2 x.pinned), (10, between 1 2 x.state)]

/-- The items of ROUTE_REMOVE (R58, R174). -/
def removeItems : RawRemove → List (Nat × Bool)
  | .byIndex index => [(2, below 48 index)]
  | .byKey form _ width scope => [(1, form == 1), (3, between 1 2 width), (4, below 17 scope)]

/-- The count and the delivery numbers of RELEASE and RETURN (section 10.3). -/
def numberItems : RawNumbers → List (Nat × Bool)
  | .all => []
  | .listed ns => (2, decide (1 ≤ ns.length ∧ ns.length ≤ 8)) :: ns.mapIdx (fun k number => (3 + k, number != 0))

/-- The items of a line configuration (R175, section 10.3). -/
def configItems (c : RawConfig) : List (Nat × Bool) :=
  [(2, below 2 c.mode), (3, below 11 c.rate), (4, between 7 8 c.dataBits), (5, below 3 c.parity), (6, between 1 2 c.stopBits),
    (7, below 2 c.duplex), (8, below 16 c.domain)]

/-- The items of a request that have a range, in position order, each with its position and whether it lies in its range
(section 10.3 and the ranges that the requests state). -/
def requestItems : Instr → List (Nat × Bool)
  | .cancel _ target _ => [(1, target != 0)]
  | .arm _ line plan _ => (1, below 8 line) :: planItems plan
  | .disarm _ line how _ => [(1, below 8 line), (2, below 2 how)]
  | .captureGet _ line _ | .flushTx _ line _ | .lineGet _ line _ => [(1, below 8 line)]
  | .poolSet _ line quota _ => [(1, below 8 line), (2, between 1 128 quota)]
  | .routeInstall _ route _ => installItems route
  | .routeRemove _ target _ => removeItems target
  | .routeStateSuspend _ index _ | .routeStateResume _ index _ | .routeRead _ index _ => [(1, below 48 index)]
  | .routeFlush _ scope force _ => [(1, below 18 scope), (2, below 2 force)]
  | .routeProbe _ _ width domain _ => [(2, between 1 2 width), (3, below 16 domain)]
  | .parkResolve _ number decision target _ =>
    [(1, number != 0), (2, below 3 decision), (3, if decision = 2 then target == 0 else below 8 target)]
  | .parkSet _ timeout _ => [(1, timeout != 0)]
  | .fetch _ queue max wait _ => [(1, below 8 queue), (2, between 1 8 max), (3, decide (wait.toNat ≤ 30000))]
  | .release _ queue numbers _ | .returnFrames _ queue numbers _ => (1, below 8 queue) :: numberItems numbers
  | .queueSet _ queue capacity notify _ => [(1, below 8 queue), (2, between 1 64 capacity), (3, below 2 notify)]
  | .queueGet _ queue _ => [(1, below 8 queue)]
  | .transmit _ line data _ notify _ =>
    [(1, below 8 line), (2, decide (1 ≤ data.length ∧ data.length ≤ 255)), (5, below 2 notify)]
  | .lineSet _ line config limit _ => (1, below 8 line) :: configItems config ++ [(9, decide (limit.toNat ≤ 60000))]
  | .ackReports _ sequence _ => [(1, sequence != 0)]
  | .stats _ selector operand clear _ =>
    [(1, below 5 selector), (2, if selector = 0 ∨ selector = 1 then below 8 operand else operand == 0),
      (3, below 2 clear)]
  | _ => []

/-- The position of the first item of a request that lies outside its range (R174). -/
def firstOutOfRange (i : Instr) : Option Nat := ((requestItems i).find? (fun item => !item.2)).map Prod.fst

/-! ### What transmit entries and drains leave behind -/

/-- What a transmit entry raises when it leaves its queue with a result: TX_DONE for a host entry with notify (R125). -/
def doneReport (n : LineNo) (result : TxResult) (e : TxEntry) : List (Source × Raised) :=
  match e.origin with
  | .host number true => [(.lp n, .report (.txDone number n result))]
  | _ => []

/-- The entry in SENDING and the entries not in SENDING (R119). -/
def LinePort.split (p : LinePort) : Option TxEntry × List TxEntry :=
  match p.txState, p.txQueue with
  | .sending _, e :: rest => (some e, rest)
  | _, es => (none, es)

/-- What a cut of a line's queue raises (R119, R125, R134, R138): the entry in SENDING is aborted, the others flushed. -/
def LinePort.cutReports (p : LinePort) (n : LineNo) : List (Source × Raised) :=
  p.split.1.toList.flatMap (doneReport n .aborted) ++ p.split.2.flatMap (doneReport n .flushed)

/-- A head entry has been taken up (R114 to R117), from the state before it to the state after: it waits out its pre-quiet,
whose timer does not start during a break that holds it (for one not handed on a free value, log 16), or it waits for the turn, or its first character
goes out. -/
def TakenUp (s t : State) (n : LineNo) (e : TxEntry) : Prop :=
  if e.preQuiet ≠ 0 then
    (t.port n).txState = .waitQuiet ∧ (t.port n).onWire = none ∧ (t.slot e.slot).state = .txQueued
      ∧ (t.port n).preQuiet = if (s.port n).heldByBreak then none else some ⟨e.preQuiet.toNat * 100, 100⟩
  else if (s.port n).config.duplex = .full ∨ (s.unit n).busy = false then
    (t.port n).txState = .sending 0 ∧ (t.port n).preQuiet = none ∧ (t.slot e.slot).state = .sending
      ∧ (t.port n).onWire = (t.slot e.slot).data.head?.map (s.port n).config.sent
      ∧ ((s.port n).config.duplex = .half → (t.port n).ldir = true ∧ (t.unit n).lineSending = true)
  else
    (t.port n).txState = .waitTurn ∧ (t.port n).preQuiet = none ∧ (t.port n).onWire = none
      ∧ (t.slot e.slot).state = .txQueued

/-- A drain has ended (R137): the pending configuration is in force, the transmitter is IDLE, a paused unit hunts by its
plan, and the LINE_SET, if the drain is still attached, has been answered DRAINED, or CUT with the cut's counts (R138). -/
def DrainEnded (s t : State) (n : LineNo) (d : Drain) : Prop :=
  (t.port n).config = d.pending ∧ (t.port n).drain = none ∧ (t.port n).txState = .idle ∧ (t.port n).onWire = none
    ∧ t.hl.slots = s.hl.slots ∧ t.outgoing = s.outgoing
    ∧ ((s.port n).level = .mark → (t.port n).receiver = .idle)
    ∧ ((s.port n).level = .space → (t.port n).receiver = .waitMark)
    ∧ (∀ p, (s.unit n).phase = .paused → (s.unit n).plan = some p →
        (t.unit n).plan = some p ∧ (t.unit n).phase = p.startForm.firstState)
    ∧ match d.requester with
      | .attached tag =>
        t.hl.incoming = s.hl.incoming ++ [replyPacket tag 0x3A .ok
          ([placeByte n] ++ (if d.cutDone then [2, 1, byteOf d.aborted, byteOf d.flushed] else [1, 1, 0, 0]))]
      | .detached => t.hl.incoming = s.hl.incoming

/-- A block has taken a CANCEL (R157), from a state to the state after: QM ends the held fetch that it names (R101), a Line Port
the attached drain (R139), and each hands over the CANCELLED reply and then the CANCEL's OK; or the CANCEL is answered
UNKNOWN_TAG, since what it names is gone. -/
def Cancelled (s t : State) (b : Block) (tag target : Byte) : Prop :=
  let handing (packets : List OutPacket) : HostLink := { s.hl with incoming := s.hl.incoming ++ packets }
  let missed : State := { s with hl := handing [replyPacket tag 0x03 .unknownTag []] }
  (b = .qm →
      (∀ q h, (s.queue q).held = some h → h.tag = target → (∀ r, r < q → ∀ g ∈ (s.queue r).held, g.tag ≠ target) →
          t = { s with
            queues := s.queues.set q { s.queue q with held := none }
            hl := handing
              [replyPacket target 0x30 .cancelled
                  [placeByte q, 0, byteOf (s.queue q).waiting.length, byteOf (s.queue q).lent.length],
                replyPacket tag 0x03 .ok []] })
        ∧ ((∀ q, ∀ h ∈ (s.queue q).held, h.tag ≠ target) → t = missed))
    ∧ ∀ n, b = .lp n →
      (∀ d, (s.port n).drain = some d → d.requester = .attached target →
          t = { s with
            ports := s.ports.set n { s.port n with drain := none }
            units := s.units.set n (s.unit n).resume
            hl := handing
              [replyPacket target 0x3A .cancelled
                  ([placeByte n, if (s.port n).config.mode = .on then 1 else 0]
                    ++ (if d.cutDone then [byteOf d.aborted, byteOf d.flushed] else [0, 0])),
                replyPacket tag 0x03 .ok []] })
        ∧ ((∀ d ∈ (s.port n).drain, d.requester ≠ .attached target) → t = missed)

/-! ### What becomes of frames -/

/-- The bytes that the records of frames take in a FETCH reply (R99, R176). -/
def State.recordBytes (s : State) (frames : List SlotNo) : Nat :=
  (frames.map (fun i => 20 + (s.slot i).data.length)).sum

/-- From a state to the state after, `k` frames have been lent (R95, R99, R100): the longest run from the head of the waiting
list that the max, the room of the lent list and the 1018 bytes of a reply allow, each frame under a delivery number of its
own. Only the queue, these slots and HL change. -/
def Lends (s t : State) (q : QueueNo) (max k : Nat) : Prop :=
  let d := s.queue q
  1 ≤ k ∧ k ≤ d.waiting.length ∧ k ≤ max ∧ d.lent.length + k ≤ 8 ∧ s.recordBytes (d.waiting.take k) ≤ 1018
    ∧ (k = d.waiting.length ∨ k = max ∨ d.lent.length + k = 8 ∨ 1018 < s.recordBytes (d.waiting.take (k + 1)))
    ∧ t.queue q = { d with
        waiting := d.waiting.drop k, lent := d.lent ++ d.waiting.take k, nextNumber := (t.queue q).nextNumber
        counters := { d.counters with fetched := satAdd d.counters.fetched k } }
    ∧ (∀ r, r ≠ q → t.queue r = s.queue r)
    ∧ (∀ i, i ∉ d.waiting.take k → t.slot i = s.slot i)
    ∧ (∀ i, i ∈ d.waiting.take k → t.slot i = { s.slot i with
        state := .lent
        record := { (s.slot i).record with deliveryNumber := (t.slot i).record.deliveryNumber } })
    ∧ (d.nextNumber ∉ s.lentNumbers q → k = 1 → (t.queue q).nextNumber = nextNumber d.nextNumber
        ∧ ∀ i ∈ d.waiting.head?, (t.slot i).record.deliveryNumber = d.nextNumber)
    ∧ ((s.lentNumbers q).Nodup → (t.lentNumbers q).Nodup)
    ∧ { t with hl := s.hl, queues := s.queues, pool := s.pool } = s
    ∧ t.pool.counters = s.pool.counters ∧ t.pool.quotas = s.pool.quotas

/-- A frame has been offered to a delivery queue (R96, R97, R102), from a state to the state after. At capacity it is dropped
as QUEUE_FULL. Else it joins the tail of the waiting list, and the held fetch is answered by it, or QUEUE_READY is raised
where the list was empty, notify is set and armed, and a session is OPEN. -/
def DeliveryOffered (s t : State) (i : SlotNo) (q : QueueNo) : Prop :=
  let d := s.queue q
  let queued : Slot := { s.slot i with state := .queued, record := { (s.slot i).record with deliveryNumber := 0 } }
  let joined : DeliveryQueue := { d with
    waiting := d.waiting ++ [i], counters := { d.counters with placed := satInc d.counters.placed } }
  let placed : State := { s with pool := { s.pool with slots := s.pool.slots.set i queued }, queues := s.queues.set q joined }
  if d.waiting.length + d.lent.length < d.capacity then
    match d.held with
    | none =>
      t = if d.waiting = [] ∧ d.notify = true ∧ d.armed = true ∧ s.hl.session = .opened then
          { placed with
            queues := s.queues.set q { joined with armed := false }
            ru := { s.ru with inbox := s.ru.inbox ++ [(.qm, .report (.queueReady q 1))] } }
        else placed
    | some h =>
      d.lent.length < 8 → 1 ≤ h.max → (d.lent ++ d.waiting ++ [i]).Nodup → (∀ j, (s.slot j).data.length ≤ 255) →
        let ready : State := { placed with queues := s.queues.set q { joined with held := none } }
        ∃ k, Lends ready t q h.max k
          ∧ t.hl = { s.hl with incoming := s.hl.incoming ++
              [replyPacket h.tag 0x30 .ok (t.fetchResults q ((d.waiting ++ [i]).take k))] }
  else
    t = { s with
      pool := { s.pool with
        slots := s.pool.slots.set i {}, counters := { s.pool.counters with freed := satInc s.pool.counters.freed } }
      queues := s.queues.set q { d with counters := { d.counters with dropped := satInc d.counters.dropped } }
      ru := { s.ru with inbox := s.ru.inbox ++ [(.qm, .loss .queueFull (s.slot i).record.line)] } }

/-- A frame has been offered to a line's transmit queue (R122), from a state to the state after. On an ACTIVE line with room
it joins the tail with pre-quiet 0, and is taken up where it is the head outside TRAILING (R114). Else it is dropped as
FORWARD_BLOCKED. -/
def ForwardOffered (s t : State) (i : SlotNo) (n : LineNo) (source : RouteSource) : Prop :=
  let p := s.port n
  if p.lineState = .active ∧ p.txQueue.length < 16 then
    (t.port n).txQueue = p.txQueue ++ [⟨i, .route source, 0⟩]
      ∧ (t.port n).txCounters = { p.txCounters with forwardedPlaced := satInc p.txCounters.forwardedPlaced }
      ∧ (t.port n).config = p.config
      ∧ t.slot i = { s.slot i with state := (t.slot i).state } ∧ (∀ j, j ≠ i → t.slot j = s.slot j)
      ∧ (p.txQueue ≠ [] ∨ p.txState = .trailing →
          (t.slot i).state = .txQueued ∧ (t.port n).txState = p.txState ∧ (t.port n).onWire = p.onWire
            ∧ t.unit n = s.unit n)
      ∧ (p.txQueue = [] → p.txState ≠ .trailing → p.onWire = none → TakenUp s t n ⟨i, .route source, 0⟩)
      ∧ (t.unit n = s.unit n ∨ t.unit n = (s.unit n).beginSending)
      ∧ (∀ m, m ≠ n → t.port m = s.port m ∧ t.unit m = s.unit m)
      ∧ t.pool.counters = s.pool.counters ∧ t.pool.quotas = s.pool.quotas
      ∧ { t with units := s.units, ports := s.ports, pool := s.pool } = s
  else
    t = { s with
      pool := { s.pool with
        slots := s.pool.slots.set i {}, counters := { s.pool.counters with freed := satInc s.pool.counters.freed } }
      ru := { s.ru with inbox := s.ru.inbox ++ [(.lp n, .loss .forwardBlocked (s.slot i).record.line)] } }

/-- A frame has left the park for an entry (R50, R55, R86): its record is gone, the entry is stamped and counts the match. -/
def State.leavesFor (s : State) (r : ParkRecord) (i : RouteNo) : State :=
  ((s.unpark r.number).slotTo r.slot .withRE).countMatch i

/-- The cascade of a group has run (R86, R87), from a state to the state after, with the number of frames it re-resolved:
the group's oldest frame leaves through an ACTIVE entry that matches it, and the next follows, until one finds a SUSPENDED
entry or none and becomes the head in its place, or none is left. -/
inductive Cascades (line : LineNo) (width : KeyWidth) (key : Half) : State → State → Nat → Prop
  /-- The group has left the park. -/
  | ends (s : State) : s.oldestOf line width key = none → Cascades line width key s s 0
  /-- No in-use entry matches: the frame is the new head, MISS, and is reported as such. -/
  | misses (s : State) (r : ParkRecord) : s.oldestOf line width key = some r →
      (∀ i, s.servesAt i r.key r.width r.domain = false) →
      Cascades line width key s
        (((s.modResolution (fun c => { c with cascaded := satInc c.cascaded })).setReason r.number .miss).raise .re
          (.routeMiss r.number r.line r.key r.width r.length)) 1
  /-- A SUSPENDED entry matches: the frame is the new head, SUSPENDED on it, and is reported as such. -/
  | holds (s : State) (r : ParkRecord) (i : RouteNo) (e : RouteEntry) : s.oldestOf line width key = some r →
      s.route i = some e → e.serves r.key r.width r.domain = true → e.state = .suspended →
      Cascades line width key s
        ((((s.modResolution (fun c => { c with cascaded := satInc c.cascaded })).countMatch i).setReason r.number
          (.suspended i)).raise .re (.routeHeld r.number i r.line r.key)) 1
  /-- An ACTIVE entry matches: the frame leaves through it. -/
  | leaves (s t : State) (r : ParkRecord) (i : RouteNo) (e : RouteEntry) (k : Nat) : s.oldestOf line width key = some r →
      s.route i = some e → e.serves r.key r.width r.domain = true → e.state = .active →
      Cascades line width key
        (((s.modResolution (fun c => { c with
          cascaded := satInc c.cascaded, departures := satInc c.departures })).leavesFor r i).dispatch r.resolved i e) t k →
      Cascades line width key s t (k + 1)

/-- The frames eligible for an entry have been released (R55), from a state to the state after, with the numbers of frames
released and re-resolved in cascades: the oldest leaves through the entry, its group's cascade runs, and the next follows. -/
inductive Releases (i : RouteNo) (eligible : ParkRecord → Bool) : State → State → Nat → Nat → Prop
  | ends (s : State) : (∀ r ∈ s.re.parks, eligible r = false) → Releases i eligible s s 0 0
  | next (s u t : State) (r : ParkRecord) (e : RouteEntry) (released cascaded k : Nat) :
      s.re.parks.find? eligible = some r → s.route i = some e →
      Cascades r.line r.width r.key ((s.leavesFor r i).dispatch r.resolved i e) u k →
      Releases i eligible u t released cascaded → Releases i eligible s t (released + 1) (cascaded + k)

/-! ### Characters and the unit -/

/-- The command is the end of a received character of a value and a status at a line (R130, R131). -/
def Hears (s : State) (n : LineNo) (c : Instr) (value : Byte) (status : CharStatus) : Prop :=
  (c = .candidateFramingCharacter n ∧ (s.port n).receiver = .candidate ∧ value = 0 ∧ status = .framing)
    ∨ ∃ data parityBit stopBit, c = .characterReceived n data parityBit stopBit ∧ (s.port n).receiver = .receiving
        ∧ (s.port n).config.judge data parityBit stopBit = .ended value status

/-- A timer of a time in TU, just started (R1). -/
def tuStarted (t : Half) : Timer := ⟨t.toNat * 100, 100⟩

/-- A unit has re-armed after the end of a frame or skip (R24, R9): a staged plan begins its hunt, a CONTINUOUS plan hunts
again, with a break that ended the frame as its start condition, and a ONCE plan leaves the unit DISARMED. -/
def Rearmed (u v : CaptureUnit) (p : Plan) (byBreak : Bool) : Prop :=
  v.staged = none ∧ v.frame = none ∧ v.skip = none ∧ v.gap = none ∧ v.span = none
    ∧ (∀ q, u.staged = some q → v.plan = some q ∧ v.phase = q.startForm.firstState)
    ∧ (u.staged = none → p.again = .continuous → v.plan = some p
        ∧ v.phase = if byBreak = true ∧ p.startForm = .brk then .huntAny
          else if byBreak = true ∧ p.startForm = .brkLead then .huntLead else p.startForm.firstState)
    ∧ (u.staged = none → p.again = .once → v.plan = none ∧ v.phase = .disarmed)
    ∧ v.quiet = (if v.phase = .huntQuiet ∧ v.breakInProgress = false ∧ v.lineSending = false then
        v.plan.map (fun p => tuStarted (p.quiet.getD 0)) else none)

/-- What a unit raises as it re-arms: CAPTURE_DONE under a ONCE plan with none staged (R24). -/
def CaptureUnit.doneReports (u : CaptureUnit) (p : Plan) (n : LineNo) (reason : CloseReason) : List (Source × Raised) :=
  if u.staged = none ∧ p.again = .once then [(.cu n, .report (.captureDone n reason))] else []

/-- The level of a bit of a character as it goes out (R117). -/
def bitAt (levels : List Bool) (k : Nat) : Bool := levels.getD k true

/-- The samples that a receiver in a configuration takes of a character's levels: data, parity and stop (R130). -/
def LineConfig.samples (c : LineConfig) (levels : List Bool) : Byte × Bool × Bool :=
  (BitVec.ofNat 8 ((List.range c.dataBits.count).map (fun i => if bitAt levels (1 + i) then 2 ^ i else 0)).sum,
    bitAt levels (1 + c.dataBits.count), bitAt levels (1 + c.dataBits.count + if c.parity = .noParity then 0 else 1))

/-! ### The Host Link -/

/-- The receiver holds what its state says (R146). -/
def HostLink.ReceiverSound (h : HostLink) : Prop :=
  match h.rx with
  | .huntSync => h.kept = [] ∧ h.gapTimer = none
  | .length => h.kept.length ≤ 1 ∧ h.gapTimer.isSome
  | .body =>
    2 ≤ h.kept.length ∧ h.kept.length < packetLength h.kept + 2 ∧ packetLength h.kept ≤ 1026 ∧ 2 ≤ packetLength h.kept
      ∧ h.gapTimer.isSome
  | .check =>
    (h.kept.length = packetLength h.kept + 2 ∨ h.kept.length = packetLength h.kept + 3) ∧ packetLength h.kept ≤ 1026
      ∧ 2 ≤ packetLength h.kept ∧ h.gapTimer.isSome

/-- The sequence number of a report copy. -/
def OutPacket.reportSequence (p : OutPacket) : Option Half :=
  match p.kind with
  | .report k => some k
  | _ => none

/-- The Host Link is sound: at most four requests hold slots, under distinct tags from 1 (R151); at most one notice, one
slot-free refusal and one copy of each report wait in the outgoing list, and blocks have handed replies and report copies only
(R160); a request waits at the block that owns it, a CANCEL at QM or a Line Port (R153, R157); while HL ignores its input no
packet is under way (R158). -/
def HostLink.Sound (h : HostLink) : Prop :=
  h.slots.length ≤ Config.requestSlots ∧ (h.slots.map RequestSlot.tag).Nodup ∧ (∀ r ∈ h.slots, r.tag ≠ 0)
    ∧ h.waiting.countP (fun p => p.kind == .notice) ≤ 1
    ∧ h.waiting.countP (fun p => p.kind == .refusal) ≤ 1
    ∧ (h.waiting.filterMap OutPacket.reportSequence).Nodup
    ∧ (∀ p ∈ h.incoming, p.kind = .reply ∨ p.isReport = true)
    ∧ (∀ x ∈ h.handed, requestOwner x.2 = some x.1
        ∨ (∃ tag target stage, x.2 = .cancel tag target stage) ∧ (x.1 = .qm ∨ ∃ n, x.1 = .lp n))
    ∧ h.ReceiverSound
    ∧ (h.ignoring = true → h.rx = .huntSync)

/-! ### Sessions and reports -/

/-- The sequence numbers of the reports follow one another, and the last is followed by `next` (R161). -/
def Consecutive (next : Half) : List QueuedReport → Prop
  | [] => True
  | [r] => nextNumber r.sequence = next
  | r :: r' :: rest => nextNumber r.sequence = r'.sequence ∧ Consecutive next (r' :: rest)

/-- A block raises no LOSS and no REPORTS_LOST: RU alone makes them (the table of 09_reports_and_counters.md). -/
def Raised.fromBlock : Raised → Bool
  | .report (.loss _) => false
  | .report (.reportsLost _) => false
  | _ => true

/-- The requests that wait for something, with their codes: those that a block has yet to take (R153), held fetches (R101), the
LINE_SETs of attached drains (R136), the OPEN whose session open is under way (R154), the request that caused the session end
under way, the OPENs that wait for it (R155), STATS that wait for a block to be read (R170), and those whose reply HL has yet to
take (R151). -/
def State.outstanding (s : State) : List RequestSlot :=
  s.queues.toList.flatMap (fun q => (q.held.map (fun h => ⟨h.tag, 0x30⟩)).toList)
    ++ s.ports.toList.flatMap (fun p =>
      match p.drain.map Drain.requester with
      | some (.attached tag) => [⟨tag, 0x3A⟩]
      | _ => [])
    ++ (s.hl.opening.map (fun o => ⟨o.tag, 0x01⟩)).toList
    ++ (match s.hl.ending.map SessionEnding.cause with
      | some (.byClose tag) => [⟨tag, 0x02⟩]
      | some (.byOpen tag _) => [⟨tag, 0x01⟩]
      | none => [])
    ++ s.hl.opensWaiting.map (fun tag => ⟨tag, 0x01⟩)
    ++ s.ru.reads.map (fun r => ⟨r.tag, 0x42⟩)
    ++ s.hl.handed.filterMap (fun x => (requestOf x.2).map (fun (tag, code) => ⟨tag, code⟩))
    ++ s.hl.incoming.filterMap (fun p => if p.isReport then none else some ⟨p.tag, p.payload.headD 0⟩)

/-- A request holds a slot just as long as it waits for something (R151); the RESET that makes HL ignore its input keeps
its slot (R158). -/
def State.SlotsSound (s : State) : Prop :=
  s.outstanding.Perm (s.hl.slots.filter (fun r => r.code != 0x05))
    ∧ s.hl.ignoring = s.hl.slots.any (fun r => r.code == 0x05)

/-- The session and the Report Unit are sound (R155, R161, R166, R168): RU reports from its taking of the session open to its
taking of the session end, in that order (R153); a session open goes on in an OPEN session or one that is ending, and is not
kept once taken and counted; no request waits in a CLOSED session but for one that is ending, and none at a block that has taken
the session end (R153, R155); a report copy that waits to be sent is one of a queued report (R160, R164, R166). -/
def State.SessionSound (s : State) : Prop :=
  (s.ru.reporting = true ↔ s.openAwaitsRU = false
      ∧ (s.hl.session = .opened ∨ s.hl.ending.any (fun e => !e.reportsTaken) = true))
    ∧ (s.hl.ending.isSome → s.hl.session = .closed)
    ∧ (s.hl.opening.isSome → s.hl.session = .opened ∨ s.hl.ending.isSome)
    ∧ (s.openAwaitsRU = true → s.hl.ending.all (fun e => !e.reportsTaken) = true)
    ∧ (∀ o ∈ s.hl.opening, ¬(o.reportsTaken = true ∧ o.parked.isSome))
    ∧ (s.ru.reads ≠ [] → s.hl.session = .opened ∨ s.hl.ending.isSome)
    ∧ (s.hl.handed ≠ [] → s.hl.session = .opened ∨ s.hl.ending.isSome)
    ∧ (∀ e ∈ s.hl.ending, (e.queuesTaken = true → s.awaited .qm = false) ∧ (e.reportsTaken = true → s.awaited .ru = false)
        ∧ ∀ n : LineNo, e.portsTaken[n] = true → s.awaited (.lp n) = false)
    ∧ (s.hl.opensWaiting ≠ [] → s.hl.ending.isSome)
    ∧ s.ru.queue.length ≤ Config.reportPlaces
    ∧ Consecutive s.ru.nextSeq s.ru.queue
    ∧ s.ru.nextSeq ≠ 0 ∧ (∀ r ∈ s.ru.queue, r.sequence ≠ 0)
    ∧ s.ru.queue.countP QueuedReport.isLoss = (if s.ru.lossPending then 1 else 0)
    ∧ (s.ru.reporting = false → s.ru.queue = [] ∧ s.ru.lost = 0)
    ∧ (∀ x ∈ s.ru.inbox, x.2.fromBlock = true)
    ∧ (∀ k ∈ (s.hl.waiting ++ s.hl.incoming).filterMap OutPacket.reportSequence, k ∈ s.ru.queue.map QueuedReport.sequence)

/-! ### Capture Units and Line Ports -/

/-- A Capture Unit holds what its state says (R4, R9, R18). -/
def CaptureUnit.Sound (u : CaptureUnit) : Prop :=
  (u.phase = .collecting ↔ u.frame.isSome) ∧ (u.phase = .skipping ↔ u.skip.isSome)
    ∧ (u.phase = .disarmed ↔ u.plan = none)
    ∧ (u.staged.isSome → u.busy = true)
    ∧ (u.quiet.isSome → u.phase = .huntQuiet ∧ u.breakInProgress = false ∧ u.lineSending = false)
    ∧ (u.gap.isSome → u.busy = true) ∧ (u.span.isSome → u.busy = true)
    ∧ u.nextSeq ≠ 0

/-- The states of a unit that agree with its line's state (R26, R28, R128). -/
def LineState.allows (l : LineState) (c : CaptureState) : Prop :=
  match l with
  | .off => c = .disarmed
  | .draining => c = .disarmed ∨ c = .paused
  | .active => c ≠ .paused

/-- A Line Port holds what its states say (R114 to R116, R128, R130, R131). That the pre-quiet timer runs in
WAIT_QUIET but for a break that holds it is R115, and whether a break that was not handed on does so is a free value, since R115
and R131 disagree (log 16, DESIGN CHOICE; the field behind it is log 9). What it says of breakWatch (log 13, DEDUCED) and of the
level of a line with a break in progress (log 9, DESIGN CHOICE) is the model's. -/
def LinePort.Sound (p : LinePort) : Prop :=
  (p.config.mode = .off → p.drain = none ∧ p.receiver = .stopped ∧ p.txQueue = [])
    ∧ (p.config.mode = .on → p.receiver ≠ .stopped)
    ∧ (∀ d ∈ p.drain, d.pending.mode = .on ∧ (d.cutDone = true → d.timer = none) ∧ d.limit.toNat ≤ 60000)
    ∧ p.txQueue.length ≤ Config.txEntries
    ∧ (p.txState = .idle → p.txQueue = [] ∧ p.onWire = none)
    ∧ (p.txState ≠ .idle → p.txState ≠ .trailing → p.txQueue ≠ [])
    ∧ (p.txState = .trailing → p.onWire.isSome)
    ∧ (p.txState = .waitQuiet ∨ p.txState = .waitTurn → p.onWire = none)
    ∧ (p.txState = .waitTurn → p.config.duplex = .half)
    ∧ (p.preQuiet.isSome → p.txState = .waitQuiet ∧ p.heldByBreak = false)
    ∧ (p.txState = .waitQuiet → p.preQuiet.isSome ∨ p.heldByBreak = true)
    ∧ (p.breakInProgress = true → p.receiver = .waitMark ∨ p.receiver = .stopped)
    ∧ (p.breakInProgress = true → p.level = .space)
    ∧ (p.breakWatch = true → p.receiver = .waitMark ∨ p.receiver = .idle)
    ∧ (p.drain.isSome → p.txState ≠ .idle)
    ∧ p.nextTxNumber ≠ 0 ∧ (∀ k ∈ p.hostNumbers, k ≠ 0) ∧ p.hostNumbers.Nodup

/-- Every line is sound, and its unit agrees with it. -/
def State.LinesSound (s : State) : Prop :=
  ∀ n : LineNo, (s.unit n).Sound ∧ (s.port n).Sound ∧ (s.port n).lineState.allows (s.unit n).phase

/-! ### Slots and their holders -/

/-- The slot of an entry at a place in the transmit queue, with the state it must have (R33). -/
def txHolding (st : TxState) : List TxEntry → List (SlotNo × SlotState)
  | [] => []
  | e :: rest =>
    (e.slot, (match st with | .sending _ => .sending | _ => .txQueued)) :: rest.map (fun e => (e.slot, .txQueued))

/-- Every slot that a holder has, with the state that R33 gives a slot of that holder. -/
def State.holdings (s : State) : List (SlotNo × SlotState) :=
  s.units.toList.flatMap (fun u => (u.frame.map (fun f => (f.slot, SlotState.collecting))).toList)
    ++ s.re.handed.map (fun h => (h.slot, SlotState.withRE))
    ++ s.re.parks.map (fun r => (r.slot, SlotState.parked))
    ++ s.queues.toList.flatMap (fun q => q.waiting.map (fun i => (i, SlotState.queued)) ++ q.lent.map (fun i => (i, SlotState.lent)))
    ++ s.ports.toList.flatMap (fun p => txHolding p.txState p.txQueue)

/-- The slots in use with their states. -/
def State.inUse (s : State) : List (SlotNo × SlotState) :=
  ((List.finRange 128).map (fun i => (i, (s.slot i).state))).filter (fun x => x.2 != .free)

/-- Every slot in use has exactly one holder, in the state that R33 gives it; a slot is charged to an owner and holds 1 to
255 bytes exactly when it is in use (R32 to R34); a frame in progress is shorter than its plan's limit (R17). -/
def State.PoolSound (s : State) : Prop :=
  s.holdings.Perm s.inUse
    ∧ (∀ i : SlotNo, (s.slot i).state = .free → s.slot i = {})
    ∧ (∀ i : SlotNo, (s.slot i).state ≠ .free →
        (s.slot i).owner.isSome ∧ 1 ≤ (s.slot i).data.length ∧ (s.slot i).data.length ≤ 255)
    ∧ (∀ n : LineNo, ∀ p ∈ (s.unit n).plan, ∀ f ∈ (s.unit n).frame, (s.slot f.slot).data.length < p.limit.toNat)

/-! ### Numbers in range -/

/-- Lists and settings stay in the ranges of the table of capacities (00_scope.md), and numbers of R3 are not 0. -/
def State.RangesSound (s : State) : Prop :=
  s.re.parks.length ≤ Config.parkPlaces ∧ (s.re.parks.map ParkRecord.number).Nodup
    ∧ (∀ r ∈ s.re.parks, r.number ≠ 0) ∧ s.re.parkNumber ≠ 0 ∧ s.re.parkTimeout ≠ 0
    ∧ (∀ n : LineNo, 1 ≤ s.pool.quotas[n] ∧ s.pool.quotas[n] ≤ 128)
    ∧ (∀ q : QueueNo, 1 ≤ (s.queue q).capacity ∧ (s.queue q).capacity ≤ 64 ∧ (s.queue q).count ≤ 64
        ∧ (s.queue q).lent.length ≤ Config.lentMax ∧ (s.queue q).nextNumber ≠ 0
        ∧ ((s.queue q).armed = true → (s.queue q).notify = true)
        ∧ (∀ h ∈ (s.queue q).held, (s.queue q).waiting = [] ∧ (s.queue q).lent.length < Config.lentMax
            ∧ 1 ≤ h.max ∧ h.max ≤ 8))
    ∧ s.charge .host ≤ Config.hostQuota

/-- The unit in which the timer of an expiry counts, in microseconds (R1). -/
def timerUnit : Instr → Nat
  | .hostGapExpiry _ | .waitTimerExpiry _ _ | .parkTimerExpiry _ _ | .drainLimitExpiry _ _ => 1000
  | _ => 100

/-- Every running timer may expire in a window of one unit after its own units, and not before (R1). -/
def State.TimersSound (s : State) : Prop :=
  ∀ x ∈ s.timers, x.2.grace ≤ timerUnit x.1 ∧ (0 < x.2.wait → x.2.grace = timerUnit x.1)

/-- A group of parked frames has one head, its oldest frame: every other is parked ORDER, and no head is (R69, R81). -/
def State.GroupsSound (s : State) : Prop :=
  ∀ r ∈ s.re.parks, r.reason = .order ↔
    (s.oldestOf r.line r.width r.key).map ParkRecord.number ≠ some r.number

/-- A frame parked MISS matches no in-use entry, and one parked SUSPENDED matches the entry it names, which is SUSPENDED
(R82). -/
def State.ReasonsSound (s : State) : Prop :=
  ∀ r ∈ s.re.parks,
    (r.reason = .miss → ∀ i, s.servesAt i r.key r.width r.domain = false)
      ∧ ∀ i, r.reason = .suspended i →
          ∃ e, s.route i = some e ∧ e.state = .suspended ∧ e.serves r.key r.width r.domain = true

/-- No two in-use entries match one key of one width in one domain (R49). -/
def State.RoutesSound (s : State) : Prop :=
  ∀ i j : RouteNo, i ≠ j → ∀ a ∈ s.route i, ∀ b ∈ s.route j,
    ¬(a.width = b.width ∧ a.key = b.key ∧ a.scope.clashes b.scope = true)

/-- Every block is sound. -/
def State.Sound (s : State) : Prop :=
  s.hl.Sound ∧ s.SlotsSound ∧ s.SessionSound ∧ s.LinesSound ∧ s.PoolSound ∧ s.RangesSound ∧ s.TimersSound ∧ s.GroupsSound
    ∧ s.RoutesSound ∧ s.ReasonsSound

/-! ### Timers -/

/-- An expiry: the microseconds that pass before it is taken, and its timer. -/
def timerOf : Instr → Option (Nat × (State → Option Timer))
  | .hostGapExpiry after => some (after, fun s => s.hl.gapTimer)
  | .quietTimerExpiry n after => some (after, fun s => (s.unit n).quiet)
  | .gapTimerExpiry n after _ => some (after, fun s => (s.unit n).gap)
  | .spanTimerExpiry n after _ => some (after, fun s => (s.unit n).span)
  | .preQuietExpiry n after => some (after, fun s => (s.port n).preQuiet)
  | .drainLimitExpiry n after => some (after, fun s => (s.port n).drain.bind Drain.timer)
  | .waitTimerExpiry q after => some (after, fun s => (s.queue q).held.map HeldFetch.timer)
  | .parkTimerExpiry number after =>
    some (after, fun s => (s.re.parks.find? (fun r => r.number == number)).map ParkRecord.timer)
  | _ => none

/-! ### Safe runs -/

/-- A state from which no step stops: the spec names no condition that stops the part. -/
def Safe (s : State) : Prop := ∃ t, step s = .next t

end Sys2Proof.Machine
end

