-- ==== Sys2Proof/Certificates/Slice0/Obligations.lean ====
section
/-! DEFINITION. The statements for the provers. Each is about every state that meets its premises, reached by a run or not. -/

open Sys2Proof Sys2Proof.Machine

/-! ### Steps and reset -/

/-- A step runs the command at the front of the queue on the state with the queue's rest. On an empty queue (the model's
choice, log 3) a transmitter takes a turn that waits for it; else a timer whose latest moment has come expires, as R1 has it;
else one microsecond passes: device time advances and every timer counts, and the pool, the route entries, the reports, the
outgoing list and the queue stay as they are. -/
def Obligations.StepRunsFrontCommand : Prop :=
  (∀ (s : State) (c : Instr), step { s with pending := c :: s.pending } = exec c s)
    ∧ ∀ s : State, s.pending = [] →
      (∀ n, s.turnWaits n = true → (∀ m, m < n → s.turnWaits m = false) → (s.port n).txQueue ≠ [] →
          ∃ t, step s = .next t ∧ (t.port n).txState = .sending 0 ∧ t.time = s.time ∧ t.re = s.re ∧ t.queues = s.queues
            ∧ t.hl = s.hl ∧ t.ru = s.ru ∧ ∀ m, m ≠ n → t.port m = s.port m ∧ t.unit m = s.unit m)
        ∧ ((∀ n, s.turnWaits n = false) → ∀ c, s.overdue = some c →
          step s = exec c s ∧ ∃ timer, (c, timer) ∈ s.timers ∧ timer.wait + timer.grace = 0)
        ∧ ((∀ n, s.turnWaits n = false) → s.overdue = none →
          (∀ x ∈ s.timers, 0 < x.2.wait + x.2.grace)
            ∧ ∃ t, step s = .next t ∧ t.time = s.time + 1 ∧ t.pool = s.pool ∧ t.ru = s.ru
              ∧ t.re.routes = s.re.routes ∧ t.pending = [] ∧ t.outgoing = s.outgoing
              ∧ (∀ n, t.unit n = (s.unit n).pass 1 ∧ t.port n = (s.port n).pass 1)
              ∧ ∀ q, t.queue q = (s.queue q).pass 1)

/-- A timer started for n units may be taken to expire once n units have passed, and time does not run past n + 1 units
before it has expired or stopped (R1): of the microseconds wanted, at most those pass that every running timer allows. The
expiry of a timer that has stopped, or has started again and whose units have not passed, lets that time pass and does
nothing else (R20, R123, R148). How a timer is held is the model's choice (log 4). -/
def Obligations.TimersExpireInTheirWindow : Prop :=
  (∀ n k micros : Nat,
      ((Timer.start n micros).pass k).wait = n * micros - k
        ∧ (k ≤ (n + 1) * micros →
          ((Timer.start n micros).pass k).wait + ((Timer.start n micros).pass k).grace = (n + 1) * micros - k))
    ∧ (∀ (s : State) (k : Nat), s.room k ≤ k ∧ (∀ x ∈ s.timers, s.room k ≤ x.2.wait + x.2.grace)
        ∧ ((∀ n, s.turnWaits n = false) → (∀ x ∈ s.timers, k ≤ x.2.wait + x.2.grace) → s.room k = k)
        ∧ (s.pass k).time = s.time + BitVec.ofNat 32 (s.room k)
        ∧ (∀ n, (s.pass k).unit n = (s.unit n).pass (s.room k) ∧ (s.pass k).port n = (s.port n).pass (s.room k))
        ∧ (∀ q, (s.pass k).queue q = (s.queue q).pass (s.room k))
        ∧ (s.pass k).hl.gapTimer = s.hl.gapTimer.map (Timer.pass (s.room k))
        ∧ (s.pass k).re.parks = s.re.parks.map (fun r => { r with timer := r.timer.pass (s.room k) }))
    ∧ ∀ (s : State) (c : Instr) (after : Nat) (timer : State → Option Timer), timerOf c = some (after, timer) →
      (∀ t, timer (s.pass after) = some t → 0 < t.wait) → exec c s = .next (s.pass after)

/-- The state after reset holds the values that the chapters' state tables give (R4, R32, R34, R35, R46, R50, R77, R89, R94,
R112 to R114, R128, R129, R159, R161): with every register, every list and every counter. What has no value there is
the model's choice: the stop bit last heard on RXD (log 30), the straps and the reset cause (log 10), and the level of a line
and the model's own fields of a Line Port (logs 9 and 13), and that nothing is under way between blocks (log 33). -/
def Obligations.ResetHoldsResetValues : Prop :=
  State.reset.time = 0 ∧ State.reset.pending = []
    ∧ (∀ n : LineNo, State.reset.unit n =
        { phase := .disarmed, plan := none, staged := none, nextSeq := 1, frame := none, skip := none, quiet := none
          gap := none, span := none, breakInProgress := false, lineSending := false, lastClose := none
          counters := { opened := 0, keptTrail := 0, keptGap := 0, keptSpan := 0, keptLimit := 0, keptBreak := 0
                        keptCancelled := 0, aborted := 0, skipped := 0, bytesKept := 0 } })
    ∧ (∀ n : LineNo, State.reset.port n =
        { config := { mode := .off, rate := .r9600, dataBits := .eight, parity := .noParity, stopBits := .one
                      duplex := .full, domain := 0 }
          drain := none, receiver := .stopped, breakInProgress := false, breakWatch := false, breakDeaf := false
          level := .unknown, txQueue := [], txState := .idle, preQuiet := none, onWire := none, ldir := false
          nextTxNumber := 1
          rxCounters := { characters := 0, parityErrors := 0, framingErrors := 0, breaks := 0 }
          txCounters := { hostPlaced := 0, forwardedPlaced := 0, sent := 0, bytesSent := 0, flushed := 0, aborted := 0 }
          losses := { noSlot := 0, quota := 0, errorAbort := 0, keyShort := 0, parkFull := 0, parkExpired := 0
                      queueFull := 0, forwardBlocked := 0, mirrorNoSlot := 0 } }
        ∧ (State.reset.port n).lineState = .off)
    ∧ (∀ i : SlotNo, (State.reset.slot i).state = .free) ∧ State.reset.freeSlots = 128
    ∧ (∀ n : LineNo, State.reset.quotaOf (.line n) = 16 ∧ State.reset.charge (.line n) = 0)
    ∧ State.reset.charge .host = 0
    ∧ State.reset.pool.counters =
        { captureGranted := 0, mirrorGranted := 0, transmitGranted := 0, refusedQuota := 0, refusedNoSlot := 0, freed := 0
          leastFree := 128 }
    ∧ (∀ i : RouteNo, State.reset.route i = none) ∧ State.reset.re.useCounter = 0 ∧ State.reset.re.handed = []
    ∧ State.reset.re.parks = [] ∧ State.reset.re.parkNumber = 1 ∧ State.reset.re.parkTimeout = 500
    ∧ State.reset.re.table = { installs := 0, replaced := 0, refusedFull := 0, refusedConflict := 0, removed := 0
                               released := 0, remarked := 0 }
    ∧ State.reset.re.resolution =
        { taken := 0, delivered := 0, forwarded := 0, mirrored := 0, discarded := 0, defaulted := 0, parkedMiss := 0
          parkedSuspended := 0, parkedOrder := 0, hostResolved := 0, expired := 0, cascaded := 0, departures := 0 }
    ∧ (∀ q : QueueNo, State.reset.queue q =
        { waiting := [], lent := [], capacity := 16, notify := false, armed := false, nextNumber := 1, held := none
          counters := { placed := 0, dropped := 0, fetched := 0, released := 0, returned := 0 } })
    ∧ State.reset.hl =
        { straps := ⟨true, true⟩, rxSpace := false, rx := .huntSync, kept := [], gapTimer := none, slots := []
          handed := [], session := .closed, opening := none, ending := none, opensWaiting := [], incoming := []
          sending := none, waiting := [], noticesUnsent := 0
          ignoring := false, cause := .power
          counters := { requestsTaken := 0, bytesSkipped := 0, discardsGap := 0, discardsLength := 0, discardsCheck := 0
                        discardsKind := 0, noticesNotSent := 0, refusalsNotSent := 0 } }
    ∧ State.reset.ru =
        { reporting := false, queue := [], nextSeq := 1, lost := 0, lossPending := false, inbox := [], reads := []
          losses := { noSlot := 0, quota := 0, errorAbort := 0, keyShort := 0, parkFull := 0, parkExpired := 0
                      queueFull := 0, forwardBlocked := 0, mirrorNoSlot := 0 } }

/-- A device reset gives every block its reset values, whatever the state was, records its cause and samples the straps
(R144, R159). It takes place at power-up, at the RESET pin, and when the last byte of the RESET reply has left TXD (R158).
The commands to come and the count of free values go on, and what is under way between blocks is dropped (the model's
choices, logs 17 and 33). When the last byte of another packet has left TXD, that packet leaves the outgoing list, the
next one begins, and nothing else changes (R160). A transmitter at rest begins the first packet that waits. HL takes what
blocks have handed it in the order handed: a reply joins the list and frees its request's slot, and a report copy joins it
unless one with its number waits there unbegun (R151, R160). That the operand of PACKET_SENT tells these apart is the
model's choice (log 11). -/
def Obligations.DeviceResetAndTheOutgoingList : Prop :=
  ∀ (s : State) (straps : Straps),
    let fresh (cause : ResetCause) : State := { State.reset with
      pending := s.pending, freeCount := s.freeCount
      hl := { State.reset.hl with cause := cause, straps := straps } }
    exec (.powerUp straps) s = .next (fresh .power) ∧ exec (.resetPin straps) s = .next (fresh .pin)
      ∧ (∀ p, s.hl.sending = some p →
        (p.kind = .resetReply → exec (.packetSent straps) s = .next (fresh .request))
          ∧ (p.kind ≠ .resetReply → exec (.packetSent straps) s
            = .next { s with hl := { s.hl with sending := s.hl.waiting.head?, waiting := s.hl.waiting.tail } })
          ∧ exec (.packetSent straps .begins) s = .next s)
      ∧ (s.hl.sending = none →
        exec (.packetSent straps) s = .next s
          ∧ exec (.packetSent straps .begins) s
            = .next { s with hl := { s.hl with sending := s.hl.waiting.head?, waiting := s.hl.waiting.tail } })
      ∧ (s.hl.incoming = [] → exec (.packetSent straps .joins) s = .next s)
      ∧ ∀ p rest, s.hl.incoming = p :: rest →
        (p.kind = .reply → exec (.packetSent straps .joins) s = .next { s with hl := { s.hl with
            incoming := rest, waiting := s.hl.waiting ++ [p], slots := s.hl.slots.filter (fun r => r.tag != p.tag) } })
          ∧ ∀ k, p.kind = .report k → exec (.packetSent straps .joins) s = .next { s with hl := { s.hl with
            incoming := rest
            waiting := if s.hl.waiting.any (fun x => x.kind == .report k) then s.hl.waiting else s.hl.waiting ++ [p] } }

/-! ### The Host Link -/

/-- A discarded packet leaves the receiver hunting with nothing kept, raises the counter of its cause, and raises a notice
that joins the outgoing list unless one waits there, which raises the count and the counter of notices not sent (R148,
R149). The expiry of the gap timer, once its time has passed, discards the packet under way. -/
def Obligations.DiscardsAreCountedAndNoticed : Prop :=
  (∀ (s : State) (why : BadPacket), s.hl.ignoring = false →
      ∃ t, exec (.packetDiscarded why) s = .next t ∧ Discarded s t (badCause why))
    ∧ ∀ (s : State) (after : Nat) (timer : Timer), s.hl.ignoring = false →
      (s.pass after).hl.gapTimer = some timer → timer.wait = 0 →
      ∃ t, exec (.hostGapExpiry after) s = .next t ∧ Discarded (s.pass after) t .gap

/-- After a byte with its stop bit at space no byte is taken until RXD has returned to mark; every other byte is taken with
its value, whatever its own stop bit (R144). The receiver takes each by its state (R146), up to the byte that completes a
packet, which `Obligations.PacketBytesCarryTheirRequest` and `Obligations.DamagedPacketsAreDiscarded` take further. -/
def Obligations.HostBytesMoveTheReceiver : Prop :=
  ∀ (s : State) (b : Byte) (stopBit fromMark : Bool), s.hl.Sound → s.hl.ignoring = false →
    let c : Instr := .hostByteReceived b stopBit fromMark
    let heard : State := { s with hl := { s.hl with rxSpace := !stopBit } }
    (s.hl.rxSpace = true → fromMark = false → exec c s = .next s)
      ∧ (s.hl.rxSpace = false ∨ fromMark = true →
        (s.hl.rx = .huntSync → b ≠ 0xA7 →
            exec c s = .next { heard with hl := { heard.hl with counters :=
              { s.hl.counters with bytesSkipped := satInc s.hl.counters.bytesSkipped } } })
          ∧ (s.hl.rx = .huntSync → b = 0xA7 →
            exec c s = .next { heard with hl := { heard.hl with rx := .length, kept := [], gapTimer := some ⟨10000, 1000⟩ } })
          ∧ (s.hl.rx = .length → s.hl.kept = [] →
            exec c s = .next { heard with hl := { heard.hl with rx := .length, kept := [b], gapTimer := some ⟨10000, 1000⟩ } })
          ∧ (∀ low, s.hl.rx = .length → s.hl.kept = [low] → 2 ≤ (half low b).toNat → (half low b).toNat ≤ 1026 →
            exec c s = .next { heard with hl := { heard.hl with
              rx := .body, kept := [low, b], gapTimer := some ⟨10000, 1000⟩ } })
          ∧ (∀ low, s.hl.rx = .length → s.hl.kept = [low] → ((half low b).toNat < 2 ∨ 1026 < (half low b).toNat) →
            ∃ t, exec c s = .next t ∧ Discarded heard t .length)
          ∧ (s.hl.rx = .body →
            exec c s = .next { heard with hl := { heard.hl with
              rx := if s.hl.kept.length + 1 = packetLength s.hl.kept + 2 then .check else .body
              kept := s.hl.kept ++ [b], gapTimer := some ⟨10000, 1000⟩ } })
          ∧ (s.hl.rx = .check → s.hl.kept.length = packetLength s.hl.kept + 2 →
            exec c s = .next { heard with hl := { heard.hl with
              rx := .check, kept := s.hl.kept ++ [b], gapTimer := some ⟨10000, 1000⟩ } }))

/-- RESET is answered OK, keeps its slot, and makes HL ignore its input from then on; the device reset itself follows when
the reply has left TXD, by `Obligations.DeviceResetTakesResetValues` (R158). While HL ignores its input no byte, no damaged
packet and no request changes anything, and the gap timer's expiry only stops the timer (R146, R158). -/
def Obligations.ResetRequestStopsTheInput : Prop :=
  (∀ (s : State) (tag : Byte), Accepts s tag →
      ∃ t, exec (.resetRequest tag) s = .next t
        ∧ { t with hl := s.hl } = s ∧ t.hl.ignoring = true ∧ t.hl.slots = s.hl.slots ++ [⟨tag, 0x05⟩]
        ∧ t.outgoing = s.outgoing ++ [{ kind := .resetReply, tag := tag, payload := [0x05, 0] }])
    ∧ ∀ s : State, s.hl.ignoring = true →
      (∀ b stopBit fromMark, exec (.hostByteReceived b stopBit fromMark) s = .next s)
        ∧ (∀ why, exec (.packetDiscarded why) s = .next s)
        ∧ (∀ after timer, (s.pass after).hl.gapTimer = some timer → timer.wait = 0 →
          exec (.hostGapExpiry after) s
            = .next { s.pass after with hl := { (s.pass after).hl with gapTimer := none } })
        ∧ ∀ i, (requestOf i).isSome → exec i s = .next s

/-- A request under tag 0, under a tag that holds a slot, or while four slots are held, takes no slot, changes nothing
outside HL and is answered BAD_TAG, TAG_IN_USE or BUSY, in that order, unless such a refusal already waits (R150). -/
def Obligations.RefusedRequestsTakeNoSlot : Prop :=
  ∀ (i : Instr) (s : State) (tag code : Byte), i.wf = true → requestOf i = some (tag, code) → s.hl.ignoring = false →
    (tag = 0 → exec i s = .next (s.refused 0 code .badTag))
      ∧ (tag ≠ 0 → (∃ r ∈ s.hl.slots, r.tag = tag) → exec i s = .next (s.refused tag code .tagInUse))
      ∧ (tag ≠ 0 → (∀ r ∈ s.hl.slots, r.tag ≠ tag) → 4 ≤ s.hl.slots.length →
          exec i s = .next (s.refused tag code .busy))

/-- An accepted request is checked in order (R152). A packet whose first payload byte is no request code, or whose payload
is empty, is answered UNKNOWN_REQUEST with that code, or 0, in any session state. A request of a code of the part other
than OPEN, IDENTIFY and RESET is answered NO_SESSION while the session is CLOSED, whatever its parameters and whatever the
length of its payload. Else a payload that ends before its request's last item, or goes on after it, is answered
BAD_LENGTH. An item out of its range is answered BAD_PARAM with the position of the first such item, and so is a
ROUTE_STATE operation that is neither SUSPEND nor RESUME (R174). None of these changes anything else. A request that
passes is handed to the block that owns it (R153), where it holds its slot and waits. Each block takes what it was handed
in that order: nothing while another waits there before it, or an OPEN does; then with the effect of the request as the
other statements give it for a request that is accepted and taken in a row, though other requests have been accepted and
taken meanwhile. That the command's operand says which of the two happenings it stands for is the model's choice (log 1).
CANCEL is `Obligations.CancelEndsTheRequestItNames`. -/
def Obligations.RequestsAreCheckedAndHandedOver : Prop :=
  (∀ (s : State) (tag : Byte) (code : Option Byte), (Instr.unknownRequest tag code).wf = true → Accepts s tag →
      exec (.unknownRequest tag code) s = .next (s.replied tag (code.getD 0) .unknownRequest []))
    ∧ (∀ (i : Instr) (s : State) (tag code : Byte), i.wf = true → requestOf i = some (tag, code) → Accepts s tag →
      s.hl.session = .closed → code ∈ requestCodes → code ∉ [0x01, 0x04, 0x05] →
      exec i s = .next (s.replied tag code .noSession []))
    ∧ (∀ (i : Instr) (s : State) (tag code : Byte) (payload : List Byte), i.wf = true →
      encodePayload i = some (tag, code :: payload) → code ∈ requestCodes → Accepts s tag → s.hl.rx = .huntSync →
      let status : Status :=
        if s.hl.session = .opened ∨ code ∈ [0x01, 0x04, 0x05] then .badLength else .noSession
      (∀ extra : List Byte, extra ≠ [] → (code :: payload ++ extra).length ≤ 1024 →
          feed (packetBytes 1 tag (code :: payload ++ extra)) s = .next (s.rxdAtMark.replied tag code status []))
        ∧ ∀ k, k < payload.length →
          feed (packetBytes 1 tag (code :: payload.take k)) s = .next (s.rxdAtMark.replied tag code status []))
    ∧ (∀ (i : Instr) (s : State) (tag code : Byte) (position : Nat), i.wf = true → requestOf i = some (tag, code) →
      Accepts s tag → s.hl.session = .opened ∨ code ∈ [0x01, 0x04, 0x05] → firstOutOfRange i = some position →
      exec i s = .next (s.replied tag code .badParam [byteOf position]))
    ∧ (∀ (s : State) (tag index operation : Byte), Ready s tag → s.hl.rx = .huntSync → 1 < operation.toNat →
      feed (packetBytes 1 tag [0x22, index, operation]) s
        = .next (s.rxdAtMark.replied tag 0x22 .badParam [if index.toNat < 48 then 2 else 1]))
    ∧ (∀ (i : Instr) (s : State) (tag code : Byte) (b : Block), requestOf i = some (tag, code) → requestOwner i = some b →
      firstOutOfRange i = none → Ready s tag → i = staged .accept i ∨ s.nothingAhead b = false →
      exec i s = .next { s.holding tag code with hl := { (s.holding tag code).hl with
        handed := s.hl.handed ++ [(b, staged .whole i)] } })
    ∧ (∀ (i : Instr) (s : State) (b : Block), requestOwner i = some b →
      (s.hl.handed.find? (fun x => x.1 == b)).map Prod.snd ≠ some (staged .whole i) ∨ s.openAwaits b = true →
      (∀ x ∈ s.hl.handed, x.2 = staged .whole i → x.1 = b) → exec (staged .block i) s = .next s)
    ∧ ∀ (i : Instr) (s : State) (tag code : Byte) (b : Block) (front back : List (Block × Instr)),
      requestOf i = some (tag, code) → tag ≠ 0 → requestOwner i = some b → firstOutOfRange i = none → i = staged .whole i →
      s.hl.handed = front ++ (b, i) :: back → (∀ x ∈ front, x.1 ≠ b ∧ x.2 ≠ i) → s.openAwaits b = false →
      s.hl.session = .opened ∨ (∀ q, (s.queue q).armed = false) →
      ∃ t u, exec (staged .block i) s = .next t
        ∧ exec i { s with hl := { s.hl with handed := [], slots := [], session := .opened, ignoring := false } } = .next u
        ∧ t = { u with hl := { s.hl with
            handed := front ++ back, incoming := u.hl.incoming, waiting := u.hl.waiting } }

/-- The bytes of a correct request packet, received one after another, do exactly what the request's own command does, up to
its hand-over to the block that owns it (R145 to R147, R152, R174). -/
def Obligations.PacketBytesCarryTheirRequest : Prop :=
  ∀ (i : Instr) (s : State) (tag : Byte) (payload : List Byte), i.wf = true → encodePayload i = some (tag, payload) →
    s.hl.rx = .huntSync → s.hl.ignoring = false →
    feed (packetBytes 1 tag payload) s = exec (staged .accept i) s.rxdAtMark

/-- A packet whose check differs from its CRC is discarded with cause CHECK, and one with a correct check whose kind is not
REQUEST with cause KIND, with no effect outside HL (R147, R148). -/
def Obligations.DamagedPacketsAreDiscarded : Prop :=
  ∀ (s : State) (kind tag : Byte) (payload : List Byte), s.hl.Sound → s.hl.rx = .huntSync → s.hl.ignoring = false →
    payload.length ≤ 1024 →
    (∀ high low, half low high ≠ crc16 (packetBody kind tag payload) →
        ∃ t, feed (Config.sync :: packetBody kind tag payload ++ [high, low]) s = .next t ∧ Discarded s.rxdAtMark t .check)
      ∧ (kind ≠ 1 → ∃ t, feed (packetBytes kind tag payload) s = .next t ∧ Discarded s.rxdAtMark t .kind)

/-- Reading the payload of any well-formed request gives that request back, with every value its items can hold; the payload
of an unknown request gives its code (R152, R172, R174, R175, section 10.3). -/
def Obligations.PayloadsDecodeToTheirRequests : Prop :=
  ∀ (i : Instr) (tag : Byte) (payload : List Byte), i.wf = true → encodePayload i = some (tag, payload) →
    decodePayload tag payload = match i with
      | .unknownRequest _ code => .unknown code
      | _ => .request (staged .whole i)

/-! ### Sessions -/

/-- OPEN taken while the session is CLOSED opens it and keeps its slot (R154). RU and RE each take what HL hands them in a
happening of its own: RU starts reporting with sequence 1 (R166), RE counts the parked frames, and whichever comes last,
the reply with the items of R154 is handed over. A request handed to RU or to RE after it waits there until it has been
taken (R153). That the command's operand says who takes it is the model's choice (log 7), and so is that RE counts in its
own happening (log 32). OPEN taken while a session is OPEN ends that session first (R155), and taken while a session end
is under way it waits (log 20). CLOSE makes the session CLOSED at once and keeps its slot; its reply waits for the session
end (R155, R156). -/
def Obligations.OpenAndCloseMoveTheSession : Prop :=
  (∀ (s : State) (tag : Byte), Accepts s tag →
    (s.hl.ending = none → s.hl.session = .closed →
        exec (.openSession tag) s
          = .next { s.holding tag 0x01 with hl := { (s.holding tag 0x01).hl with
              session := .opened, opening := some (opens tag s.time false) } })
      ∧ (s.hl.ending = none → s.hl.session = .opened →
        exec (.openSession tag) s
          = .next { s.holding tag 0x01 with hl := { (s.holding tag 0x01).hl with
              session := .closed, ending := some { cause := .byOpen tag s.time } } })
      ∧ (s.hl.ending.isSome →
        exec (.openSession tag) s
          = .next { s.holding tag 0x01 with hl := { (s.holding tag 0x01).hl with
              opensWaiting := s.hl.opensWaiting ++ [tag] } })
      ∧ (s.hl.session = .opened →
        exec (.closeSession tag) s
          = .next { s.holding tag 0x02 with hl := { (s.holding tag 0x02).hl with
              session := .closed, ending := some { cause := .byClose tag } } }))
    ∧ ∀ (s : State) (o : SessionOpening), s.hl.opening = some o →
      let reporting : ReportUnit := { s.ru with reporting := true, nextSeq := 1 }
      (o.reportsTaken = true → exec (.openSession o.tag .ru) s = .next s)
        ∧ (o.parked.isSome → exec (.openSession o.tag .re) s = .next s)
        ∧ (∀ tag, tag ≠ o.tag → exec (.openSession tag .ru) s = .next s ∧ exec (.openSession tag .re) s = .next s)
        ∧ (o.reportsTaken = false → o.parked = none →
          exec (.openSession o.tag .ru) s = .next { s with
              ru := reporting, hl := { s.hl with opening := some { o with reportsTaken := true } } }
            ∧ exec (.openSession o.tag .re) s = .next { s with
              hl := { s.hl with opening := some { o with parked := some s.re.parks.length } } })
        ∧ (∀ parked, o.reportsTaken = false → o.parked = some parked →
          ∃ t, exec (.openSession o.tag .ru) s = .next t ∧ { t with hl := s.hl } = { s with ru := reporting }
            ∧ t.hl.opening = none ∧ t.hl.session = s.hl.session ∧ t.hl.ending = s.hl.ending
            ∧ t.hl.slots = s.hl.slots.filter (fun r => r.tag != o.tag) ∧ t.outgoing = s.outgoing ++ [s.openReply o parked])
        ∧ (o.reportsTaken = true → o.parked = none →
          ∃ t, exec (.openSession o.tag .re) s = .next t ∧ { t with hl := s.hl } = s
            ∧ t.hl.opening = none ∧ t.hl.session = s.hl.session ∧ t.hl.ending = s.hl.ending
            ∧ t.hl.slots = s.hl.slots.filter (fun r => r.tag != o.tag)
            ∧ t.outgoing = s.outgoing ++ [s.openReply o s.re.parks.length])
        ∧ ∀ i tag code b, requestOf i = some (tag, code) → requestOwner i = some b → firstOutOfRange i = none → Ready s tag →
          b = .ru ∧ o.reportsTaken = false ∨ b = .re ∧ o.parked = none →
          exec i s = .next { s.holding tag code with hl := { (s.holding tag code).hl with
              handed := s.hl.handed ++ [(b, staged .whole i)] } }
            ∧ ((∀ x ∈ s.hl.handed, x.2 = staged .whole i → x.1 = b) → exec (staged .block i) s = .next s)

/-- SESSION_END brings the session end to one block, once, and then to HL (R155); which blocks take it in one happening is
the model's choice (log 7). QM answers each held fetch CANCELLED, queue by queue, returns the lent frames to the heads of
their queues and arms notify (R109; that the counts of these replies are those afterwards is log 15). A Line Port with an
attached drain makes it DETACHED, and that LINE_SET's slot is freed (R140). RU, which takes a session open before it
(R153), drops its reports, and no report that was waiting is sent (R166). Each takes it after what HL handed it before
(R153). When all have taken it, and the replies to the requests accepted before have joined the outgoing list, a CLOSE is
answered with the numbers cancelled, returned, detached and dropped (R156), and an OPEN is carried out, with previous
session ENDED and the device time at which it was taken (R154). OPENs that waited are then taken in turn (log 20). -/
def Obligations.SessionEndSettlesEveryBlock : Prop :=
  ∀ (s : State) (e : SessionEnding), s.hl.ending = some e →
    (e.queuesTaken = true ∨ s.awaited .qm = true → exec (.sessionEnd .qm) s = .next s)
      ∧ (∀ n, e.portsTaken[n] = true ∨ s.awaited (.lp n) = true → exec (.sessionEnd (.lp n)) s = .next s)
      ∧ (e.reportsTaken = true ∨ s.openAwaitsRU = true ∨ s.awaited .ru = true → exec (.sessionEnd .ru) s = .next s)
      ∧ (e.queuesTaken = false ∨ (∃ n : LineNo, e.portsTaken[n] = false) ∨ e.reportsTaken = false
            ∨ s.hl.opening.isSome ∨ s.ru.reads ≠ [] ∨ s.hl.handed ≠ [] ∨ s.hl.incoming ≠ [] →
        exec (.sessionEnd .hl) s = .next s)
      ∧ (e.queuesTaken = false → s.awaited .qm = false →
        ∃ t, exec (.sessionEnd .qm) s = .next t ∧ { t with hl := s.hl, queues := s.queues, pool := s.pool } = s
          ∧ (∀ q, t.queue q = { s.queue q with
              held := none, lent := [], waiting := (s.queue q).lent ++ (s.queue q).waiting
              armed := (s.queue q).armed || (s.queue q).notify
              counters := { (s.queue q).counters with
                returned := satAdd (s.queue q).counters.returned (s.queue q).lent.length } })
          ∧ (∀ q, ∀ i ∈ (s.queue q).lent, t.slot i = { s.slot i with
              state := .queued, record := { (s.slot i).record with deliveryNumber := 0 } })
          ∧ (∀ i, (∀ q, i ∉ (s.queue q).lent) → t.slot i = s.slot i)
          ∧ t.pool.quotas = s.pool.quotas ∧ t.pool.counters = s.pool.counters
          ∧ t.hl = { s.hl with
              incoming := s.hl.incoming ++ s.cancelledReplies
              ending := some { e with
                queuesTaken := true
                cancelled := (List.finRange 8).countP (fun q => (s.queue q).held.isSome)
                returned := ((List.finRange 8).map (fun q => (s.queue q).lent.length)).sum } })
      ∧ (∀ n, e.portsTaken[n] = false → s.awaited (.lp n) = false →
        exec (.sessionEnd (.lp n)) s = .next { s with
          ports := s.ports.set n { s.port n with
            drain := (s.port n).drain.map (fun d => { d with requester := .detached }) }
          hl := { s.hl with
            slots := s.hl.slots.filter (fun r => (s.port n).attachedTag != some r.tag)
            ending := some { e with
              portsTaken := e.portsTaken.set n true
              detached := e.detached + if (s.port n).attachedTag.isSome then 1 else 0 } } })
      ∧ (e.reportsTaken = false → s.openAwaitsRU = false → s.awaited .ru = false →
        exec (.sessionEnd .ru) s = .next { s with
          ru := { s.ru with reporting := false, queue := [], lossPending := false, lost := 0 }
          hl := { s.hl with
            waiting := s.hl.waiting.filter (fun p => !p.isReport), incoming := s.hl.incoming.filter (fun p => !p.isReport)
            ending := some { e with reportsTaken := true, dropped := s.ru.queue.length } } })
      ∧ (e.queuesTaken = true → (∀ n : LineNo, e.portsTaken[n] = true) → e.reportsTaken = true →
        s.hl.opening = none → s.ru.reads = [] → s.hl.handed = [] → s.hl.incoming = [] →
        (∀ tag, e.cause = .byClose tag →
            let reply := replyPacket tag 0x02 .ok
              [byteOf e.cancelled, byteOf e.returned, byteOf e.detached, byteOf e.dropped]
            (s.hl.opensWaiting = [] →
                ∃ t, exec (.sessionEnd .hl) s = .next t ∧ { t with hl := s.hl } = s
                  ∧ t.hl.ending = none ∧ t.hl.session = s.hl.session ∧ t.hl.opensWaiting = []
                  ∧ t.hl.slots = s.hl.slots.filter (fun r => r.tag != tag) ∧ t.outgoing = s.outgoing ++ [reply])
              ∧ ∀ first rest, s.hl.opensWaiting = first :: rest → s.hl.session = .closed →
                ∃ t, exec (.sessionEnd .hl) s = .next t ∧ { t with hl := s.hl } = s
                  ∧ t.outgoing = s.outgoing ++ [reply]
                  ∧ t.hl = { s.hl.afterOpen s.time (opens first s.time false) rest with
                      sending := t.hl.sending, waiting := t.hl.waiting
                      slots := s.hl.slots.filter (fun r => r.tag != tag) })
          ∧ ∀ tag takenAt, e.cause = .byOpen tag takenAt →
            exec (.sessionEnd .hl) s
              = .next { s with hl := s.hl.afterOpen s.time (opens tag takenAt true) s.hl.opensWaiting })

/-- CANCEL is handed to QM where its tag names a FETCH that is held or that QM has yet to take, and to the Line Port where
it names a LINE_SET whose drain is attached or that the port has yet to take; it waits there behind what was handed before
(R153, R157). QM answers a held fetch CANCELLED with zero frames and then the CANCEL OK (R101). The Line Port calls the
drain off: the configuration in force and the transmitter stay, a paused unit resumes, the LINE_SET is answered CANCELLED
with the counts of a cut already made, and the CANCEL then OK (R139). Where the fetch or the drain is gone by then, the
CANCEL is answered UNKNOWN_TAG. HL answers that itself where the tag names nothing of the kind (for a request whose reply
is on its way to HL, the model's choice, log 34). -/
def Obligations.CancelEndsTheRequestItNames : Prop :=
  (∀ (s : State) (tag target : Byte) (b : Block), Ready s tag → target ≠ 0 → (∃ r ∈ s.hl.slots, r.tag = target) →
      let held := ∃ q, ∃ h ∈ (s.queue q).held, h.tag = target
      let drains := ∃ n, ∃ d ∈ (s.port n).drain, d.requester = .attached target
      (held ∧ b = .qm)
        ∨ (¬held ∧ ∃ n, b = .lp n ∧ ∀ m, (∃ d ∈ (s.port m).drain, d.requester = .attached target) ↔ m = n)
        ∨ (¬held ∧ ¬drains ∧ (s.hl.handed.find? (fun x => endsByCancel target x.2)).map Prod.fst = some b) →
      let waits : State := { s.holding tag 0x03 with hl := { (s.holding tag 0x03).hl with
        handed := s.hl.handed ++ [(b, .cancel tag target)] } }
      exec (.cancel tag target .accept) s = .next waits
        ∧ (s.nothingAhead b = false → exec (.cancel tag target) s = .next waits)
        ∧ (s.nothingAhead b = true →
          ∃ t, exec (.cancel tag target) s = .next t ∧ Cancelled (s.holding tag 0x03) t b tag target))
    ∧ (∀ (s : State) (tag target : Byte) (b : Block) (front back : List (Block × Instr)),
      s.hl.handed = front ++ (b, .cancel tag target) :: back → (∀ x ∈ front, x.1 ≠ b ∧ x.2 ≠ .cancel tag target) →
      s.openAwaits b = false →
      ∃ t, exec (.cancel tag target .block) s = .next t
        ∧ Cancelled { s with hl := { s.hl with handed := front ++ back } } t b tag target)
    ∧ ∀ (s : State) (tag target : Byte), Ready s tag → target ≠ 0 →
      (∀ r ∈ s.hl.slots, r.tag ≠ target)
        ∨ (∀ q, ∀ h ∈ (s.queue q).held, h.tag ≠ target) ∧ (∀ n, ∀ d ∈ (s.port n).drain, d.requester ≠ .attached target)
          ∧ (∀ x ∈ s.hl.handed, endsByCancel target x.2 = false) →
      exec (.cancel tag target) s = .next (s.replied tag 0x03 .unknownTag [])

/-! ### Frame capture -/

/-- ARM on an ACTIVE line with a plan that passes R5 makes it the current plan and begins its hunt, unless a frame or skip is
in progress, when it becomes the staged plan and the current plan goes on (R6, R7). Elsewhere it is refused LINE_OFF,
LINE_BUSY or BAD_PARAM with the position of R5's first failing step. Nothing else changes. -/
def Obligations.ArmAppliesOrStagesThePlan : Prop :=
  ∀ (s : State) (tag : Byte) (n : LineNo) (p : Plan), ReadyAt s tag (.cu n) → p.InRange →
    exec (.arm tag (placeByte n) p.raw) s = .next (
      match (s.port n).lineState, p.misfit with
      | .off, _ => s.answered tag 0x10 .lineOff []
      | .draining, _ => s.answered tag 0x10 .lineBusy []
      | .active, some position => s.answered tag 0x10 .badParam [byteOf position]
      | .active, none =>
        if (s.unit n).phase = .collecting ∨ (s.unit n).phase = .skipping then
          ({ s with units := s.units.set n { s.unit n with staged := some p } } : State).answered tag 0x10 .staged []
        else
          ({ s with units := s.units.set n { s.unit n with
              plan := some p, phase := p.startForm.firstState, gap := none, span := none
              quiet := if p.startForm.firstState = .huntQuiet ∧ (s.unit n).breakInProgress = false
                  ∧ (s.unit n).lineSending = false then some (tuStarted (p.quiet.getD 0)) else none } } :
            State).answered tag 0x10 .applied [])

/-- DISARM leaves the unit DISARMED with no plan, no staged plan and its timers stopped, and answers with what it found: a
frame kept and handed to RE, a frame dropped with its slot freed, a skip ended, or nothing (R25). Other lines and the frame
sequence are untouched. That a freed slot is cleared is the model's choice (log 24). -/
def Obligations.DisarmEndsCapture : Prop :=
  ∀ (s : State) (tag : Byte) (n : LineNo) (how : Partial), ReadyAt s tag (.cu n) → (s.unit n).Sound →
    ∃ t found, exec (.disarm tag (placeByte n) how.code) s = .next t
      ∧ (t.unit n).phase = .disarmed ∧ (t.unit n).plan = none ∧ (t.unit n).staged = none
      ∧ (t.unit n).frame = none ∧ (t.unit n).skip = none
      ∧ (t.unit n).quiet = none ∧ (t.unit n).gap = none ∧ (t.unit n).span = none
      ∧ (t.unit n).nextSeq = (s.unit n).nextSeq
      ∧ (∀ m, m ≠ n → t.unit m = s.unit m ∧ t.port m = s.port m)
      ∧ t.queues = s.queues ∧ t.ru = s.ru ∧ t.time = s.time ∧ t.hl = (s.answered tag 0x11 .ok [found]).hl
      ∧ (∀ p f, (s.unit n).plan = some p → (s.unit n).frame = some f → how = .keep →
          found = 1 ∧ (t.unit n).lastClose = some .cancelled ∧ t.re = { s.re with handed := s.re.handed ++ [p.handed n f] })
      ∧ (∀ f, (s.unit n).frame = some f → how = .drop →
          found = 2 ∧ (t.unit n).lastClose = (s.unit n).lastClose ∧ t.re = s.re
            ∧ ((∀ e ∈ (s.port n).txQueue, e.slot ≠ f.slot) → t.slot f.slot = {}))
      ∧ ((s.unit n).skip.isSome → found = 3 ∧ (t.unit n).lastClose = some .lost ∧ t.re = s.re)
      ∧ ((s.unit n).frame = none → (s.unit n).skip = none →
          found = 0 ∧ (t.unit n).lastClose = (s.unit n).lastClose ∧ t.re = s.re)

/-- The requests that read the state return it and change nothing: CAPTURE_GET, POOL_GET, ROUTE_PROBE, ROUTE_READ,
PARK_LIST, QUEUE_GET and LINE_GET (R30, R43, R62, R63, R90, R106, R142). A probe that finds no entry is answered NOT_FOUND,
and one with a key above 255 under width 1 BAD_PARAM. IDENTIFY does so in any session state: the identity of the part, its
capacities, the reset cause, the session, the host-link rate and the link counters (R158; the widths of its first items are
the model's, log 23). -/
def Obligations.ReadRequestsChangeNothing : Prop :=
  (∀ (s : State) (tag : Byte), Accepts s tag →
      exec (.identify tag) s
        = .next (s.replied tag 0x04 .ok
            ([0x45, 0x56, 0x38, 0x4C, 2, 128, 48, 16, 8, 32, 4, s.hl.cause.code, s.hl.session.code, strapCode s.hl.straps]
              ++ s.heard.hl.counters.bytes)))
    ∧ ∀ (s : State) (tag : Byte),
      (∀ n : LineNo, ReadyAt s tag (.cu n) → exec (.captureGet tag (placeByte n)) s = .next (s.answered tag 0x12 .ok (s.captureResults n)))
        ∧ (ReadyAt s tag .fp → exec (.poolGet tag) s
          = .next (s.answered tag 0x19 .ok ([byteOf s.freeSlots, byteOf (s.charge .host), 32]
              ++ (List.finRange 8).flatMap (fun n => [byteOf (s.charge (.line n)), byteOf s.pool.quotas[n]]))))
        ∧ (∀ (key : Half) (w : KeyWidth) (d : Domain), ReadyAt s tag .re →
            exec (.routeProbe tag key w.code (placeByte d)) s = .next (
              if w = .one ∧ 255 < key.toNat then s.answered tag 0x24 .badParam [1]
              else match (List.finRange 48).find? (fun i => s.servesAt i key w d) with
                | none => s.answered tag 0x24 .notFound []
                | some i => s.answered tag 0x24 .ok [placeByte i, entryStateCode (s.route i)]))
        ∧ (∀ i : RouteNo, ReadyAt s tag .re → exec (.routeRead tag (placeByte i)) s
            = .next (s.answered tag 0x25 .ok
                (routeRecord i (s.route i) (s.re.parks.countP (fun r => r.reason == .suspended i)))))
        ∧ (ReadyAt s tag .re → exec (.parkList tag) s
          = .next (s.answered tag 0x2A .ok (le16 s.re.parkTimeout ++ [byteOf s.re.parks.length] ++ le16 s.re.parkNumber
              ++ s.re.parks.flatMap ParkRecord.bytes)))
        ∧ (∀ q : QueueNo, ReadyAt s tag .qm → exec (.queueGet tag (placeByte q)) s = .next (s.answered tag 0x34 .ok (s.queueGetResults q)))
        ∧ (∀ n : LineNo, ReadyAt s tag (.lp n) → exec (.lineGet tag (placeByte n)) s = .next (s.answered tag 0x3B .ok (s.port n).getResults))

/-- A GOOD character opens a frame in HUNT_ANY, and in HUNT_LEAD where it is the lead byte, on a line that hands
characters on (R11, R12): it takes the next sequence number, whatever the answer to its claim (R14). With the line's
charge below its quota and a slot FREE the unit collects, the character standing as byte 0 of a slot charged to the line,
with the device time and the domain of the line (R15); else the unit follows the frame without a slot and hands over the
loss, with cause QUOTA or NO_SLOT (R16). Under a limit of 1 either ends at once, by LIMIT and kept, or as a skip, and the
unit re-arms (R21, R24). -/
def Obligations.GoodCharacterOpensAFrame : Prop :=
  ∀ (s : State) (n : LineNo) (p : Plan) (c : Instr) (value : Byte), Hears s n c value .good →
    (s.port n).Sound → (s.port n).handsOn = true → (s.unit n).plan = some p → (s.unit n).frame = none → (s.unit n).skip = none →
    (s.unit n).phase = .huntAny ∨ (s.unit n).phase = .huntLead ∧ p.lead = some value → p.limit ≠ 0 →
    let u := s.unit n
    let gap := p.gap.map tuStarted
    let span := p.span.map tuStarted
    ∃ t, exec c s = .next t ∧ (t.unit n).nextSeq = nextNumber u.nextSeq
      ∧ (∀ m, m ≠ n → t.port m = s.port m ∧ t.unit m = s.unit m) ∧ t.queues = s.queues ∧ t.hl = s.hl
      ∧ t.time = s.time
      ∧ (s.charge (.line n) < s.pool.quotas[n] → (∃ i, (s.slot i).state = .free) →
        let frame (i : SlotNo) : FrameInProgress :=
          { slot := i, errorCount := 0, openTime := s.time, domain := (s.port n).config.domain, sequence := u.nextSeq }
        ∃ i, (s.slot i).state = .free
          ∧ ((s.port n).txState ≠ .waitTurn ∨ 1 < p.limit.toNat → ∀ j, j ≠ i → t.slot j = s.slot j)
          ∧ t.pool.counters.captureGranted = satInc s.pool.counters.captureGranted
          ∧ (1 < p.limit.toNat →
              t.slot i = { state := .collecting, owner := some (.line n), data := [value], record := {} }
                ∧ t.unit n = { u with
                    phase := .collecting, nextSeq := nextNumber u.nextSeq, quiet := none, frame := some (frame i)
                    gap := gap, span := span, counters := { u.counters with opened := satInc u.counters.opened } }
                ∧ t.re = s.re ∧ t.ru = s.ru ∧ (t.port n).txState = (s.port n).txState)
          ∧ (p.limit = 1 → (∀ e ∈ (s.port n).txQueue, e.slot ≠ i) →
              t.slot i = { state := .withRE, owner := some (.line n), data := [value],
                           record := (frame i).record n .limit s.time }
                ∧ t.re = { s.re with handed := s.re.handed ++ [p.handed n (frame i)] }
                ∧ (t.unit n).lastClose = some .limit ∧ Rearmed u (t.unit n) p false
                ∧ (t.unit n).counters
                  = { u.counters with opened := satInc u.counters.opened }.keep .limit 1
                ∧ t.ru = { s.ru with inbox := s.ru.inbox ++ u.doneReports p n .limit }))
      ∧ (s.pool.quotas[n] ≤ s.charge (.line n) ∨ (∀ i, (s.slot i).state ≠ .free) →
        let loss : Source × Raised :=
          (.cu n, .loss (if s.pool.quotas[n] ≤ s.charge (.line n) then .quota else .noSlot) n)
        t.re = s.re ∧ ((s.port n).txState ≠ .waitTurn ∨ 1 < p.limit.toNat → t.pool.slots = s.pool.slots)
          ∧ (t.unit n).counters = { u.counters with skipped := satInc u.counters.skipped }
          ∧ (1 < p.limit.toNat →
              t.unit n = { u with
                phase := .skipping, nextSeq := nextNumber u.nextSeq, quiet := none, skip := some ⟨1, u.nextSeq⟩
                gap := gap, span := span, counters := { u.counters with skipped := satInc u.counters.skipped } }
                ∧ t.ru = { s.ru with inbox := s.ru.inbox ++ [loss] })
          ∧ (p.limit = 1 → (t.unit n).lastClose = some .lost ∧ Rearmed u (t.unit n) p false
              ∧ t.ru = { s.ru with inbox := s.ru.inbox ++ loss :: u.doneReports p n .lost }))

/-- In COLLECTING a GOOD character, and an error character under the MARK policy, is stored as the frame's next byte; an
error character counts as one, and the gap timer starts afresh (R17). The frame closes with TRAIL where the character is
GOOD and the trail byte, else with LIMIT where the frame has reached its limit: it is kept, counted and handed to RE with
its record complete (R21). In SKIPPING a character is counted, and an error character under ABORT, the trail byte or the
limit ends the skip; else the gap timer starts afresh (R23). After either end the unit re-arms (R24). -/
def Obligations.CharactersAreStoredOrSkipped : Prop :=
  ∀ (s : State) (n : LineNo) (p : Plan) (c : Instr) (value : Byte) (status : CharStatus), Hears s n c value status →
    (s.port n).Sound → (s.port n).handsOn = true → (s.unit n).plan = some p →
    let u := s.unit n
    let gap := if p.gap.isSome then p.gap.map tuStarted else u.gap
    (∀ f, u.phase = .collecting → u.frame = some f → u.skip = none → ¬(status ≠ .good ∧ p.errorPolicy = .abort) →
        (∀ e ∈ (s.port n).txQueue, e.slot ≠ f.slot) →
        let data := (s.slot f.slot).data ++ [value]
        let f' : FrameInProgress := { f with errorCount := f.errorCount + if status = .good then 0 else 1 }
        let close : Option CloseReason :=
          if status = .good ∧ p.trail = some value then some .trail
          else if p.limit.toNat ≤ data.length then some .limit else none
        ∃ t, exec c s = .next t ∧ t.queues = s.queues ∧ t.hl = s.hl ∧ t.time = s.time
          ∧ (∀ m, m ≠ n → t.port m = s.port m ∧ t.unit m = s.unit m)
          ∧ ((s.port n).txState ≠ .waitTurn ∨ close = none → ∀ j, j ≠ f.slot → t.slot j = s.slot j)
          ∧ (close = none →
              t.slot f.slot = { s.slot f.slot with data := data } ∧ t.unit n = { u with frame := some f', gap := gap }
                ∧ t.re = s.re ∧ t.ru = s.ru)
          ∧ ∀ r, close = some r →
              t.slot f.slot = { s.slot f.slot with
                  state := .withRE, data := data, record := f'.record n r s.time }
                ∧ t.re = { s.re with handed := s.re.handed ++ [p.handed n f'] }
                ∧ (t.unit n).lastClose = some r ∧ (t.unit n).counters = u.counters.keep r data.length
                ∧ (t.unit n).nextSeq = u.nextSeq ∧ Rearmed u (t.unit n) p false
                ∧ t.ru = { s.ru with inbox := s.ru.inbox ++ u.doneReports p n r })
      ∧ ∀ k, u.phase = .skipping → u.skip = some k → u.frame = none →
        let ends := (status ≠ .good ∧ p.errorPolicy = .abort) ∨ (status = .good ∧ p.trail = some value)
          ∨ p.limit.toNat ≤ k.length + 1
        ∃ t, exec c s = .next t ∧ t.queues = s.queues ∧ t.hl = s.hl ∧ t.re = s.re
          ∧ (∀ m, m ≠ n → t.port m = s.port m ∧ t.unit m = s.unit m)
          ∧ (t.unit n).counters = u.counters ∧ (t.unit n).nextSeq = u.nextSeq
          ∧ ((s.port n).txState ≠ .waitTurn ∨ ¬ends → t.pool = s.pool)
          ∧ (¬ends → t.unit n = { u with skip := some { k with length := k.length + 1 }, gap := gap } ∧ t.ru = s.ru)
          ∧ (ends → (t.unit n).lastClose = some .lost ∧ Rearmed u (t.unit n) p false
              ∧ t.ru = { s.ru with inbox := s.ru.inbox ++ u.doneReports p n .lost })

/-- An error character under the ABORT policy, a character's own or that of a CANDIDATE which returns to mark, closes the
frame with ERROR: the character is not stored, the slot is freed, the loss is handed over with cause ERROR_ABORT, the abort
is counted, the gap and span timers stop, and nothing goes to RE (R22). The unit then re-arms (R24). Only a transmitter in
WAIT_TURN touches another slot: it takes the turn that the end has freed. -/
def Obligations.ErrorCharacterAbortsTheFrame : Prop :=
  ∀ (s : State) (n : LineNo) (p : Plan) (f : FrameInProgress) (c : Instr) (value : Byte) (status : CharStatus),
    status ≠ .good → Hears s n c value status →
    (s.port n).handsOn = true → (s.unit n).phase = .collecting → (s.unit n).plan = some p →
    (s.unit n).frame = some f → (s.unit n).skip = none → p.errorPolicy = .abort →
    (∀ e ∈ (s.port n).txQueue, e.slot ≠ f.slot) →
    ∃ t, exec c s = .next t
      ∧ (t.slot f.slot).state = .free
      ∧ (∀ j, j ≠ f.slot → (t.slot j).data = (s.slot j).data ∧ (t.slot j).owner = (s.slot j).owner)
      ∧ ((s.port n).txState ≠ .waitTurn → ∀ j, j ≠ f.slot → t.slot j = s.slot j)
      ∧ (t.unit n).frame = none ∧ (t.unit n).lastClose = some .error
      ∧ (t.unit n).counters = { (s.unit n).counters with aborted := satInc (s.unit n).counters.aborted }
      ∧ (t.unit n).gap = none ∧ (t.unit n).span = none ∧ (t.unit n).nextSeq = (s.unit n).nextSeq
      ∧ Rearmed (s.unit n) (t.unit n) p false
      ∧ t.ru = { s.ru with inbox :=
          s.ru.inbox ++ (.cu n, .loss .errorAbort n) :: (s.unit n).doneReports p n .error }
      ∧ t.re = s.re ∧ t.queues = s.queues ∧ t.hl = s.hl
      ∧ ∀ m, m ≠ n → t.unit m = s.unit m ∧ t.port m = s.port m

/-- The expiry of the quiet timer, once its time has passed, moves a unit in HUNT_QUIET to HUNT_LEAD under QUIET_LEAD and to
HUNT_ANY under QUIET (R9, R10). The expiry of the pre-quiet timer makes the transmitter test the turn for its head entry
(R115, R116). -/
def Obligations.QuietExpiriesMoveOn : Prop :=
  (∀ (s : State) (n : LineNo) (after : Nat) (timer : Timer) (p : Plan),
      ((s.pass after).unit n).quiet = some timer → timer.wait = 0 → (s.unit n).plan = some p →
      p.startForm = .quiet ∨ p.startForm = .quietLead →
      exec (.quietTimerExpiry n after) s = .next { s.pass after with
        units := (s.pass after).units.set n { (s.pass after).unit n with
          phase := if p.startForm = .quietLead then .huntLead else .huntAny, quiet := none, gap := none, span := none } })
    ∧ ∀ (s : State) (n : LineNo) (after : Nat) (timer : Timer) (e : TxEntry) (rest : List TxEntry),
      ((s.pass after).port n).preQuiet = some timer → timer.wait = 0 → (s.port n).txQueue = e :: rest →
      (s.port n).Sound → (s.slot e.slot).state = .txQueued →
      ∃ t, exec (.preQuietExpiry n after) s = .next t ∧ TakenUp s t n { e with preQuiet := 0 }
        ∧ (t.port n).txQueue = (s.port n).txQueue ∧ t.time = (s.pass after).time
        ∧ (∀ j, j ≠ e.slot → t.slot j = s.slot j) ∧ (t.slot e.slot).data = (s.slot e.slot).data
        ∧ t.ru = s.ru ∧ t.outgoing = s.outgoing

/-- The expiry of the gap or span timer, once its time has passed, closes the frame with that reason: the frame is kept,
counted and handed to RE with its record complete (R18, R21). A skip ends with nothing handed to RE (R23). The unit re-arms
(R24). A transmitter in WAIT_TURN takes the turn that this frees (R116), or does not yet, so that a received character may
come first (R124; that the command says which is the model's choice, log 31). -/
def Obligations.GapOrSpanExpiryClosesTheFrame : Prop :=
  ∀ (s : State) (n : LineNo) (after : Nat) (turnWaits : Bool) (timer : Timer) (p : Plan) (c : Instr)
    (reason : CloseReason),
    let v := s.pass after
    (c = .gapTimerExpiry n after turnWaits ∧ reason = .gap ∧ (v.unit n).gap = some timer)
      ∨ (c = .spanTimerExpiry n after turnWaits ∧ reason = .span ∧ (v.unit n).span = some timer) →
    timer.wait = 0 → (s.unit n).plan = some p → (s.unit n).Sound →
    (∀ f ∈ (s.unit n).frame, ∀ e ∈ (s.port n).txQueue, e.slot ≠ f.slot) →
    ∃ t, exec c s = .next t ∧ Rearmed (v.unit n) (t.unit n) p false ∧ t.time = v.time
      ∧ (∀ f, (s.unit n).frame = some f →
          t.re = { v.re with handed := s.re.handed ++ [p.handed n f] }
            ∧ t.slot f.slot = { s.slot f.slot with state := .withRE, record := f.record n reason v.time }
            ∧ (t.unit n).lastClose = some reason
            ∧ (t.unit n).counters = (s.unit n).counters.keep reason (s.slot f.slot).data.length
            ∧ t.ru = { s.ru with inbox := s.ru.inbox ++ (s.unit n).doneReports p n reason })
      ∧ ((s.unit n).skip.isSome →
          t.re = v.re ∧ (t.unit n).lastClose = some .lost ∧ (t.unit n).counters = (s.unit n).counters
            ∧ t.ru = { s.ru with inbox := s.ru.inbox ++ (s.unit n).doneReports p n .lost })
      ∧ ((s.port n).txState ≠ .waitTurn ∨ turnWaits = true →
          t.port n = v.port n ∧ ∀ j, (∀ f ∈ (s.unit n).frame, j ≠ f.slot) → t.slot j = s.slot j)
      ∧ ((s.port n).txState = .waitTurn → turnWaits = false → (s.port n).txQueue ≠ [] →
          (t.port n).txState = .sending 0)
      ∧ (∀ m, m ≠ n → t.unit m = v.unit m ∧ t.port m = v.port m) ∧ t.queues = v.queues ∧ t.hl = v.hl

/-- RE takes the oldest frame a unit has handed to it, whatever the other units have handed. A frame too short for its key is
lost as KEY_SHORT under DISCARD, and offered to the default queue under DEFAULT (R67, R68). A keyed frame parks ORDER behind
a parked frame of its group, MISS where no entry matches, or SUSPENDED on a SUSPENDED entry that matches, which counts the
match (R69, R70, R76 to R79): under the next park number, with its deadline, and reported unless it is ORDER. With 16 frames
parked it is lost as PARK_FULL, or, where it is not ORDER, offered to the default queue under the overflow policy DEFAULT
(R80). That a freed slot is cleared is the model's choice (log 24). -/
def Obligations.FrameTakenParksOrDrops : Prop :=
  ∀ (s : State) (n : LineNo) (h : HandedFrame), s.re.handed.find? (fun x => x.line == n) = some h →
    let rest := s.re.handed.eraseP (fun x => x.line == n)
    let frame := s.slot h.slot
    let taken : ResolutionCounters := { s.re.resolution with taken := satInc s.re.resolution.taken }
    let freed : PoolCounters := { s.pool.counters with freed := satInc s.pool.counters.freed }
    (keyOf frame.data h.keyOffset h.keyWidth = none →
        (h.shortPolicy = .discard →
            exec (.frameTaken n) s = .next { s with
              pool := { s.pool with slots := s.pool.slots.set h.slot {}, counters := freed }
              re := { s.re with handed := rest, resolution := taken }
              ru := { s.ru with inbox := s.ru.inbox ++ [(.re, .loss .keyShort n)] } })
          ∧ (h.shortPolicy = .default →
            ∃ t, exec (.frameTaken n) s = .next t
              ∧ DeliveryOffered { s with
                  pool := { s.pool with slots := s.pool.slots.set h.slot { frame with record :=
                    { frame.record with routeOrigin := some .default } } }
                  re := { s.re with
                    handed := rest, resolution := { taken with defaulted := satInc taken.defaulted } } }
                t h.slot h.defaultQueue))
      ∧ ∀ key reason routes useCounter, keyOf frame.data h.keyOffset h.keyWidth = some key →
        (reason = .order ∧ (s.oldestOf n h.keyWidth key).isSome ∧ routes = s.re.routes ∧ useCounter = s.re.useCounter
          ∨ reason = .miss ∧ s.oldestOf n h.keyWidth key = none ∧ (∀ j, s.servesAt j key h.keyWidth h.domain = false)
            ∧ routes = s.re.routes ∧ useCounter = s.re.useCounter
          ∨ ∃ i e, reason = .suspended i ∧ s.oldestOf n h.keyWidth key = none
            ∧ (List.finRange 48).find? (fun j => s.servesAt j key h.keyWidth h.domain) = some i
            ∧ s.route i = some e ∧ e.state = .suspended ∧ useCounter = satInc s.re.useCounter
            ∧ routes = s.re.routes.set i (some { e with hits := satInc e.hits, stamp := useCounter })) →
        let keyed : FrameRecord := { frame.record with key := key, keyPresent := true }
        let after (x : Slot) (c : ResolutionCounters) : State := { s with
          pool := { s.pool with slots := s.pool.slots.set h.slot x }
          re := { s.re with handed := rest, routes := routes, useCounter := useCounter, resolution := c } }
        (s.re.parks.length < 16 → s.re.parkNumber ∉ s.re.parks.map ParkRecord.number →
            let parked : ParkRecord :=
              { number := s.re.parkNumber, reason := reason, line := n, width := h.keyWidth, key := key,
                domain := h.domain, sequence := frame.record.sequence, length := frame.data.length, parkTime := s.time,
                deadline := s.time + BitVec.ofNat 32 (s.re.parkTimeout.toNat * 1000), keyOffset := h.keyOffset,
                slot := h.slot, timer := ⟨s.re.parkTimeout.toNat * 1000, 1000⟩ }
            let put := after { frame with state := .parked, record := keyed } (taken.park reason)
            exec (.frameTaken n) s = .next { put with
              re := { put.re with parks := s.re.parks ++ [parked], parkNumber := nextNumber s.re.parkNumber }
              ru := { s.ru with inbox := s.ru.inbox ++ (match reason with
                | .miss => [(.re, .report (.routeMiss s.re.parkNumber n key h.keyWidth frame.data.length))]
                | .suspended i => [(.re, .report (.routeHeld s.re.parkNumber i n key))]
                | .order => []) } })
          ∧ (16 ≤ s.re.parks.length → reason = .order ∨ h.overflow = .drop →
            exec (.frameTaken n) s = .next { after {} taken with
              pool := { s.pool with slots := s.pool.slots.set h.slot {}, counters := freed }
              ru := { s.ru with inbox := s.ru.inbox ++ [(.re, .loss .parkFull n)] } })
          ∧ (16 ≤ s.re.parks.length → reason ≠ .order → h.overflow = .default →
            ∃ t, exec (.frameTaken n) s = .next t
              ∧ DeliveryOffered
                (after { frame with record := { keyed with routeOrigin := some .default } }
                  { taken with defaulted := satInc taken.defaulted }) t h.slot h.defaultQueue)

/-- A keyed frame whose lookup finds an ACTIVE entry is dispatched by it: the match is stamped and counted, and the record
names the key and the entry (R50, R70, R71). DELIVER offers the frame to the entry's queue (R72). FORWARD offers it to the
entry's line, its key bytes rewritten where the entry says so (R73). MIRROR fills a copy before the rewrite, charged to the
frame's line, or hands over the loss MIRROR_NO_SLOT; it then forwards the original and offers the copy to the queue (R37,
R74). DISCARD frees the slot, which is no loss (R75). What an offer does is given by `DeliveryOffered` and `ForwardOffered`
(R96, R97, R102, R122). That a freed slot is cleared is the model's choice (log 24). -/
def Obligations.FrameTakenIsDispatched : Prop :=
  ∀ (s : State) (n : LineNo) (h : HandedFrame) (key : Half) (i : RouteNo) (e : RouteEntry),
    s.re.handed.find? (fun x => x.line == n) = some h → (s.slot h.slot).record.line = n → (s.slot h.slot).state ≠ .free →
    keyOf (s.slot h.slot).data h.keyOffset h.keyWidth = some key → s.oldestOf h.line h.keyWidth key = none →
    (List.finRange 48).find? (fun j => s.servesAt j key h.keyWidth h.domain) = some i → s.route i = some e →
    e.state = .active →
    let rest := s.re.handed.eraseP (fun x => x.line == n)
    let frame : Slot := { s.slot h.slot with record :=
      { (s.slot h.slot).record with key := key, keyPresent := true, routeOrigin := some (.entry i) } }
    let onward : Slot := match e.rewrite with
      | none => frame
      | some v => { frame with data := rewriteKey frame.data h.keyOffset h.keyWidth v }
    let stamp := satInc s.re.useCounter
    let taken : ResolutionCounters := { s.re.resolution with taken := satInc s.re.resolution.taken }
    let after (x : Slot) (c : ResolutionCounters) : State := { s with
      pool := { s.pool with slots := s.pool.slots.set h.slot x }
      re := { s.re with
        handed := rest, useCounter := stamp, resolution := c
        routes := s.re.routes.set i (some { e with hits := satInc e.hits, stamp := stamp }) } }
    (∀ v, e.rewrite = some v →
        keyOf onward.data h.keyOffset h.keyWidth
            = some (match h.keyWidth with | .one => (0 : Byte) ++ v.extractLsb' 0 8 | .two => v)
          ∧ onward.data.length = frame.data.length
          ∧ ∀ k, k < h.keyOffset.val ∨ h.keyOffset.val + h.keyWidth.bytes ≤ k → onward.data[k]? = frame.data[k]?)
      ∧ (∀ q, e.action = .deliver q →
        ∃ t, exec (.frameTaken n) s = .next t
          ∧ DeliveryOffered (after frame { taken with delivered := satInc taken.delivered }) t h.slot q)
      ∧ (∀ m, e.action = .forward m →
        ∃ t, exec (.frameTaken n) s = .next t
          ∧ ForwardOffered (after onward { taken with forwarded := satInc taken.forwarded }) t h.slot m (.entry i))
      ∧ (e.action = .discard →
        let gone := after {} { taken with discarded := satInc taken.discarded }
        exec (.frameTaken n) s = .next { gone with pool := { gone.pool with
          counters := { s.pool.counters with freed := satInc s.pool.counters.freed } } })
      ∧ ∀ m q, e.action = .mirror m q →
        let sent := after onward { taken with mirrored := satInc taken.mirrored }
        (s.charge (.line n) < s.pool.quotas[n] → (∃ j, (s.slot j).state = .free) →
            ∃ copy u t, exec (.frameTaken n) s = .next t ∧ (s.slot copy).state = .free ∧ copy ≠ h.slot
              ∧ ForwardOffered { sent with pool := { sent.pool with
                  slots := sent.pool.slots.set copy
                    { frame with state := .withRE, owner := some (.line n)
                                 record := { frame.record with mirrorCopy := true } }
                  counters := s.pool.counters.grant .mirror (s.freeSlots - 1) } } u h.slot m (.entry i)
              ∧ DeliveryOffered u t copy q)
          ∧ (s.pool.quotas[n] ≤ s.charge (.line n) ∨ (∀ j, (s.slot j).state ≠ .free) →
            ∃ t, exec (.frameTaken n) s = .next t
              ∧ ForwardOffered { sent with
                  pool := { sent.pool with counters :=
                    if s.pool.quotas[n] ≤ s.charge (.line n) then
                      { s.pool.counters with refusedQuota := satInc s.pool.counters.refusedQuota }
                    else { s.pool.counters with refusedNoSlot := satInc s.pool.counters.refusedNoSlot } }
                  ru := { s.ru with inbox := s.ru.inbox ++ [(.re, .loss .mirrorNoSlot n)] } } t h.slot m (.entry i))

/-! ### The Frame Pool -/

/-- A claim tests the quota first and the free count second; a refusal only counts itself, and a grant takes a FREE slot,
fills it, charges it to its owner and lowers the least-free mark to the new free count where that is below it (R36, R44). -/
def Obligations.ClaimTestsQuotaThenFreeSlots : Prop :=
  ∀ (s : State) (who : Claimant) (owner : Owner) (fill : Slot), fill.state ≠ .free →
    (s.quotaOf owner ≤ s.charge owner →
        s.claim who owner fill = (.quota, { s with pool := { s.pool with counters :=
          { s.pool.counters with refusedQuota := satInc s.pool.counters.refusedQuota } } }))
      ∧ (s.charge owner < s.quotaOf owner → s.freeSlots = 0 →
        s.claim who owner fill = (.noSlot, { s with pool := { s.pool with counters :=
          { s.pool.counters with refusedNoSlot := satInc s.pool.counters.refusedNoSlot } } }))
      ∧ (s.charge owner < s.quotaOf owner → 0 < s.freeSlots →
        ∃ i t, s.claim who owner fill = (.granted i, t) ∧ (s.slot i).state = .free
          ∧ t.slot i = { fill with owner := some owner } ∧ (∀ j, j ≠ i → t.slot j = s.slot j)
          ∧ t.freeSlots + 1 = s.freeSlots
          ∧ t.pool.counters.leastFree = min s.pool.counters.leastFree t.freeSlots
          ∧ t.pool.quotas = s.pool.quotas ∧ { t with pool := s.pool } = s)

/-! ### The Route Table -/

/-- ROUTE_INSTALL that passes its checks writes the entry at its target, stamped by the advanced use counter and with hit
count 0, and re-marks the Park List: frames parked SUSPENDED on the target become MISS, and a new SUSPENDED entry takes the
MISS frames it matches (R50, R54, R56, R57). The reply and the counter of re-marked frames count each of them once. A new
ACTIVE entry is taken here where it matches no such frame; `Obligations.InstallReleasesEveryMatch` takes the rest. -/
def Obligations.RouteInstallWritesTheEntry : Prop :=
  ∀ (s : State) (tag : Byte) (p : InstallParams) (i : RouteNo), ReadyAt s tag .re →
    p.misfit = none → s.installTarget p.index = some i → s.conflictWith i p = none →
    (s.re.parks.map ParkRecord.number).Nodup →
    let entry := p.entry (satInc s.re.useCounter)
    let missed := s.re.parks.map (fun r => if r.heldOn i then { r with reason := .miss } else r)
    let settled := missed.map (fun r => if r.missing entry then { r with reason := .suspended i } else r)
    let remarked := s.re.parks.countP (fun r => r.heldOn i || (p.state == .suspended && r.missing entry))
    (p.state = .suspended ∨ ∀ r ∈ missed, r.missing entry = false) →
    ∃ t, exec (.routeInstall tag p.raw) s = .next t
      ∧ t.route i = some entry ∧ (∀ j, j ≠ i → t.route j = s.route j)
      ∧ t.re.useCounter = satInc s.re.useCounter
      ∧ t.re.parks = (if p.state = .suspended then settled else missed)
      ∧ t.re.table = { s.re.table with
          installs := satInc s.re.table.installs
          replaced := if (s.route i).isSome then satInc s.re.table.replaced else s.re.table.replaced
          released := satAdd s.re.table.released 0, remarked := satAdd s.re.table.remarked remarked }
      ∧ t.re.handed = s.re.handed ∧ t.re.resolution = s.re.resolution
      ∧ t.hl = (s.answered tag 0x20 .ok
          (placeByte i :: optBytes RouteEntry.victimBytes (s.route i) ++ [0, 0, byteOf remarked])).hl
      ∧ { t with hl := s.hl, re := s.re } = s

/-- ROUTE_INSTALL is refused, changing only the counter of its refusal, BAD_PARAM with the position where the key, the
rewrite and the action do not fit, TABLE_FULL where AUTO finds no FREE entry and every entry is pinned, and CONFLICT,
naming the lowest other entry it conflicts with (R51 to R53). AUTO takes the lowest FREE index, and in a full table an
unpinned entry with the smallest stamp, the lowest where stamps are equal (R52). -/
def Obligations.RouteInstallTargetsAndRefusals : Prop :=
  (∀ (s : State) (tag : Byte) (p : InstallParams), ReadyAt s tag .re →
      (∀ position, p.misfit = some position →
          exec (.routeInstall tag p.raw) s = .next (s.answered tag 0x20 .badParam [byteOf position]))
        ∧ (p.misfit = none → p.index = none → (∀ j, ∃ e, s.route j = some e ∧ e.pinned = true) →
          exec (.routeInstall tag p.raw) s = .next (({ s with re := { s.re with table :=
              { s.re.table with refusedFull := satInc s.re.table.refusedFull } } } : State).answered tag 0x20 .tableFull []))
        ∧ (∀ i j, p.misfit = none → s.installTarget p.index = some i → s.conflictWith i p = some j →
          exec (.routeInstall tag p.raw) s = .next (({ s with re := { s.re with table :=
              { s.re.table with refusedConflict := satInc s.re.table.refusedConflict } } } : State).answered tag 0x20
                .conflict [placeByte j])))
    ∧ ∀ s : State,
      (∀ i, s.installTarget none = some i → s.route i = none → ∀ j, j < i → (s.route j).isSome)
        ∧ (∀ i e, s.installTarget none = some i → s.route i = some e →
            (∀ j, (s.route j).isSome) ∧ e.pinned = false
              ∧ ∀ j d, s.route j = some d → d.pinned = false →
                e.stamp.toNat < d.stamp.toNat ∨ (e.stamp.toNat = d.stamp.toNat ∧ i ≤ j))
        ∧ (s.installTarget none = none → ∀ j, ∃ e, s.route j = some e ∧ e.pinned = true)

/-- An ACTIVE install releases the frames it can take (R54 to R56): with the entry written and the frames of a replaced entry
MISS, each MISS frame that the entry matches leaves through it, oldest first, stamped, counted and dispatched by its action,
and its group's cascade follows, which dispatches frames until one becomes the new head or none is left (R86, R87). The reply
and the counters carry the numbers released, cascaded and re-marked (R57, R65). In a sound state every such frame is released
and counted in the entry's hit count, and none that the entry matches is left parked MISS. -/
def Obligations.InstallReleasesEveryMatch : Prop :=
  ∀ (s : State) (tag : Byte) (p : InstallParams) (i : RouteNo), ReadyAt s tag .re →
    p.misfit = none → s.installTarget p.index = some i → s.conflictWith i p = none → p.state = .active →
    let entry := p.entry (satInc s.re.useCounter)
    let missed := s.re.parks.map (fun r => if r.heldOn i then { r with reason := .miss } else r)
    let written : State := { s.holding tag 0x20 with re := { s.re with
      routes := s.re.routes.set i (some entry), useCounter := satInc s.re.useCounter, parks := missed
      table := { s.re.table with
        installs := satInc s.re.table.installs
        replaced := if (s.route i).isSome then satInc s.re.table.replaced else s.re.table.replaced } } }
    ∃ t u released cascaded remarked, exec (.routeInstall tag p.raw) s = .next t
      ∧ Releases i (fun r => r.missing entry) written u released cascaded
      ∧ t.re = { u.re with table := { u.re.table with
          released := satAdd u.re.table.released released, remarked := satAdd u.re.table.remarked remarked } }
      ∧ { t with hl := u.hl, re := u.re } = u
      ∧ t.hl = (u.handToHL (replyPacket tag 0x20 .ok
          (placeByte i :: optBytes RouteEntry.victimBytes (s.route i)
            ++ [byteOf released, byteOf cascaded, byteOf remarked]))).hl
      ∧ (∃ e, t.route i = some e ∧ e = { entry with hits := e.hits, stamp := e.stamp }
          ∧ (s.Sound → released ≤ e.hits.toNat ∧ e.hits.toNat ≤ released + cascaded))
      ∧ (∀ r ∈ t.re.parks, ¬(r.reason = .miss ∧ entry.serves r.key r.width r.domain = true))
      ∧ (s.Sound → released = missed.countP (fun r => r.missing entry)
          ∧ remarked = u.re.parks.countP (fun r => (s.re.parks.filter (fun g => g.heldOn i)).any (fun g =>
              g.number == r.number)))

/-- ROUTE_REMOVE makes the entry it names FREE, makes the frames parked SUSPENDED on it MISS in their places, and returns the
index and their number; with no such entry it is refused NO_ENTRY, and a key above 255 under width 1 is BAD_PARAM (R58). -/
def Obligations.RouteRemoveFreesTheEntry : Prop :=
  ∀ (s : State) (tag : Byte) (p : RemoveParams), ReadyAt s tag .re →
    (∀ key scope, p = .byKey key .one scope → 255 < key.toNat →
        exec (.routeRemove tag p.raw) s = .next (s.answered tag 0x21 .badParam [2]))
      ∧ ((∀ key scope, p = .byKey key .one scope → key.toNat ≤ 255) →
        exec (.routeRemove tag p.raw) s = .next (
          match s.removeTarget p with
          | none => s.answered tag 0x21 .noEntry []
          | some i =>
            let k := s.re.parks.countP (fun r => r.reason == .suspended i)
            ({ s with re := { s.re with
                routes := s.re.routes.set i none
                parks := s.re.parks.map (fun r => if r.reason == .suspended i then { r with reason := .miss } else r)
                table := { s.re.table with
                  removed := satInc s.re.table.removed, remarked := satAdd s.re.table.remarked k } } } :
              State).answered tag 0x21 .ok [placeByte i, byteOf k]))

/-- ROUTE_FLUSH makes FREE every entry whose scope it covers and that is unpinned or flushed by force, keeps the others, and
makes MISS the frames parked SUSPENDED on the entries it removed (R59). -/
def Obligations.RouteFlushRemovesTheScope : Prop :=
  ∀ (s : State) (tag : Byte) (scope : FlushScope) (force : Bool), ReadyAt s tag .re →
    let goes (e : RouteEntry) : Bool := scope.covers e.scope && (force || !e.pinned)
    ∃ t, exec (.routeFlush tag scope.code (flagByte force)) s = .next t
      ∧ (∀ i, t.route i = (s.route i).filter (fun e => !goes e))
      ∧ t.re.parks = s.re.parks.map (fun r => match r.reason with
          | .suspended i => if (s.route i).any goes then { r with reason := .miss } else r
          | _ => r)
      ∧ t.re.useCounter = s.re.useCounter ∧ t.re.handed = s.re.handed ∧ t.re.resolution = s.re.resolution
      ∧ { t with hl := s.hl, re := s.re } = s
      ∧ t.hl = (s.answered tag 0x23 .ok
          [byteOf (s.countRoutes (fun e => e.any goes)),
            byteOf (s.countRoutes (fun e => e.any (fun e => scope.covers e.scope && !goes e))),
            byteOf (s.re.parks.countP (fun r => match r.reason with
              | .suspended i => (s.route i).any goes
              | _ => false))]).hl

/-- ROUTE_STATE SUSPEND makes an in-use entry SUSPENDED and changes nothing else; RESUME of an ACTIVE entry changes nothing;
a FREE entry is refused NO_ENTRY by either (R60, R61). -/
def Obligations.RouteStateSuspendsEntries : Prop :=
  ∀ (s : State) (tag : Byte) (i : RouteNo), ReadyAt s tag .re →
    (s.route i = none →
        exec (.routeStateSuspend tag (placeByte i)) s = .next (s.answered tag 0x22 .noEntry [])
          ∧ exec (.routeStateResume tag (placeByte i)) s = .next (s.answered tag 0x22 .noEntry []))
      ∧ (∀ e, s.route i = some e →
        exec (.routeStateSuspend tag (placeByte i)) s = .next (
          ({ s with re := { s.re with routes := s.re.routes.set i (some { e with state := .suspended }) } } :
            State).answered tag 0x22 .ok [placeByte i, 2, 0, 0]))
      ∧ (∀ e, s.route i = some e → e.state = .active →
        exec (.routeStateResume tag (placeByte i)) s = .next (s.answered tag 0x22 .ok [placeByte i, 1, 0, 0]))

/-- ROUTE_STATE RESUME makes a SUSPENDED entry ACTIVE, with its key, scope and action as they were, and releases the
frames parked SUSPENDED on it (R55, R61): each leaves through the entry, oldest first, stamped, counted and dispatched by
its action, and its group's cascade follows (R86, R87). The reply and the counter carry the numbers. In a sound state
every such frame is released and counted in the entry's hit count, and none is left parked on it. -/
def Obligations.ResumeReleasesEveryHeldFrame : Prop :=
  ∀ (s : State) (tag : Byte) (i : RouteNo) (e : RouteEntry), ReadyAt s tag .re →
    s.route i = some e → e.state = .suspended →
    let resumed : State := { s.holding tag 0x22 with re := { s.re with
      routes := s.re.routes.set i (some { e with state := .active }) } }
    ∃ t u d released cascaded, exec (.routeStateResume tag (placeByte i)) s = .next t
      ∧ Releases i (fun r => r.heldOn i) resumed u released cascaded
      ∧ t.re = { u.re with table := { u.re.table with released := satAdd u.re.table.released released } }
      ∧ { t with hl := u.hl, re := u.re } = u
      ∧ t.hl = (u.handToHL (replyPacket tag 0x22 .ok [placeByte i, 1, byteOf released, byteOf cascaded])).hl
      ∧ t.route i = some d ∧ d = { e with state := .active, hits := d.hits, stamp := d.stamp }
      ∧ (∀ r ∈ t.re.parks, r.reason ≠ .suspended i)
      ∧ (s.Sound → released = s.re.parks.countP (fun r => r.heldOn i)
          ∧ (e.hits.toNat + released + cascaded < 2 ^ 32 →
              e.hits.toNat + released ≤ d.hits.toNat ∧ d.hits.toNat ≤ e.hits.toNat + released + cascaded))

/-! ### The Park List -/

/-- PARK_RESOLVE names a head by its park number: an unknown number is refused UNKNOWN_PARK, and an ORDER frame ORDER_HELD
with its group's head (R84). A head leaves the park by the decision, with route origin HOST and no match of an entry: DISCARD
frees its slot; DELIVER offers it to a queue, which places it or, at capacity, drops it as QUEUE_FULL; FORWARD offers it to a
line, which queues it or drops it as FORWARD_BLOCKED. What an offer does is given by `DeliveryOffered` and `ForwardOffered`
(R96, R97, R102, R122). The cascade of its group follows, and the reply carries the outcome, the number of frames re-resolved
and the new head (R85 to R87, R177). That a freed slot is cleared is the model's choice (log 24). -/
def Obligations.ParkResolveDispatchesTheHead : Prop :=
  ∀ (s : State) (tag : Byte) (number : Half) (d : Decision), ReadyAt s tag .re →
    number ≠ 0 →
    let c : Instr := .parkResolve tag number d.code d.target
    ((∀ r ∈ s.re.parks, r.number ≠ number) → exec c s = .next (s.answered tag 0x28 .unknownPark []))
      ∧ (∀ r g, s.re.parks.find? (fun r => r.number == number) = some r → r.reason = .order →
        s.oldestOf r.line r.width r.key = some g →
        exec c s = .next (s.answered tag 0x28 .orderHeld (le16 g.number)))
      ∧ ∀ r, s.re.parks.find? (fun r => r.number == number) = some r → r.reason ≠ .order →
        let frame : Slot := { s.slot r.slot with
          state := .withRE, record := { (s.slot r.slot).record with routeOrigin := some .host } }
        let resolved : ResolutionCounters :=
          { s.re.resolution with hostResolved := satInc s.re.resolution.hostResolved }
        let left (x : Slot) (count : ResolutionCounters) : State := { s.holding tag 0x28 with
          pool := { s.pool with slots := s.pool.slots.set r.slot x }
          re := { s.re with parks := s.re.parks.filter (fun g => g.number != number), resolution := count } }
        ∃ t u w outcome cascaded, exec c s = .next t
          ∧ Cascades r.line r.width r.key u w cascaded
          ∧ t = w.handToHL (replyPacket tag 0x28 .ok (le16 number ++ outcome ++ [byteOf cascaded]
              ++ optBytes le16 ((w.oldestOf r.line r.width r.key).map ParkRecord.number)))
          ∧ match d with
            | .discard => outcome = [2, 0]
                ∧ let gone := left {} { resolved with discarded := satInc resolved.discarded }
                  u = { gone with pool := { gone.pool with
                    counters := { s.pool.counters with freed := satInc s.pool.counters.freed } } }
            | .deliver q => outcome = (if (s.queue q).count < (s.queue q).capacity then [0, 0] else [3, 1, 6])
                ∧ DeliveryOffered (left frame { resolved with delivered := satInc resolved.delivered }) u r.slot q
            | .forward n =>
                outcome = (if (s.port n).lineState = .active ∧ (s.port n).txQueue.length < 16 then [1, 0] else [3, 1, 7])
                  ∧ ForwardOffered (left frame { resolved with forwarded := satInc resolved.forwarded }) u r.slot n
                    .hostDecision

/-- Three requests replace one setting and change nothing else. POOL_SET replaces a line's quota and returns the old quota,
the new one, the line's charge and whether the charge is not below the new quota (R42). PARK_SET replaces the park timeout
and returns the old and the new; parked frames keep their deadlines and timers (R89). QUEUE_SET replaces a queue's capacity
and notify, arms notify by its new value, and returns the old capacity, the new one, the count and whether the count is not
below the new capacity (R105). -/
def Obligations.SettingsAreReplaced : Prop :=
  ∀ (s : State) (tag : Byte),
    (∀ (n : LineNo) (quota : Byte), ReadyAt s tag .fp → 1 ≤ quota.toNat → quota.toNat ≤ 128 →
        exec (.poolSet tag (placeByte n) quota) s = .next (
          ({ s with pool := { s.pool with quotas := s.pool.quotas.set n quota.toNat } } : State).answered tag 0x18 .ok
            [placeByte n, byteOf s.pool.quotas[n], quota, byteOf (s.charge (.line n)),
              if quota.toNat ≤ s.charge (.line n) then 1 else 0]))
      ∧ (∀ timeout : Half, timeout ≠ 0 → ReadyAt s tag .re →
        exec (.parkSet tag timeout) s = .next (
          ({ s with re := { s.re with parkTimeout := timeout } } : State).answered tag 0x29 .ok
            (le16 s.re.parkTimeout ++ le16 timeout)))
      ∧ ∀ (q : QueueNo) (capacity : Byte) (notify : Bool), ReadyAt s tag .qm → 1 ≤ capacity.toNat → capacity.toNat ≤ 64 →
        exec (.queueSet tag (placeByte q) capacity (flagByte notify)) s = .next (
          ({ s with queues := s.queues.set q { s.queue q with
              capacity := capacity.toNat, notify := notify, armed := notify } } : State).answered tag 0x33 .ok
            [byteOf (s.queue q).capacity, capacity, byteOf ((s.queue q).waiting.length + (s.queue q).lent.length),
              if capacity.toNat ≤ (s.queue q).waiting.length + (s.queue q).lent.length then 1 else 0])

/-- The expiry of a parked frame's timer, once its time has passed, takes the frame out of the park, frees its slot, hands
over the loss PARK_EXPIRED and then the report, naming the reason it had (R83). An ORDER frame's expiry runs no cascade; a
head's runs that of its group (R86, R87). That a freed slot is cleared is the model's choice (log 24). -/
def Obligations.ParkExpiryDropsTheFrame : Prop :=
  ∀ (s : State) (after : Nat) (r : ParkRecord),
    (s.pass after).re.parks.find? (fun g => g.number == r.number) = some r → r.timer.wait = 0 →
    let v := s.pass after
    let dropped : State := { v with
      pool := { s.pool with
        slots := s.pool.slots.set r.slot {}, counters := { s.pool.counters with freed := satInc s.pool.counters.freed } }
      re := { v.re with
        parks := v.re.parks.filter (fun g => g.number != r.number)
        resolution := { s.re.resolution with expired := satInc s.re.resolution.expired } }
      ru := { s.ru with inbox := s.ru.inbox ++
        [(.re, .loss .parkExpired r.line), (.re, .report (.parkExpired r.number r.line r.key r.reason))] } }
    (r.reason = .order → exec (.parkTimerExpiry r.number after) s = .next dropped)
      ∧ (r.reason ≠ .order → ∃ t k, exec (.parkTimerExpiry r.number after) s = .next t
          ∧ Cascades r.line r.width r.key dropped t k)

/-! ### Delivery queues -/

/-- FETCH is decided by its first case (R98 to R101): QUEUE_BUSY behind a held fetch; LENT_FULL with 8 frames lent; with
frames waiting, frames are lent; OK with none when the wait is 0; else the fetch is held under its tag and is not answered.
Every case but the first arms notify where notify is set. What is lent is the longest run from the head of the waiting list
that the max, the room of the lent list and the 1018 bytes of a reply allow, each frame under a delivery number of its own.
The expiry of a held fetch's wait timer, once its time has passed, answers it OK with no frame. -/
def Obligations.FetchLendsOrWaits : Prop :=
  (∀ (s : State) (tag max : Byte) (q : QueueNo) (wait : Half), ReadyAt s tag .qm → 1 ≤ max.toNat →
      max.toNat ≤ 8 → wait.toNat ≤ 30000 →
      let d := s.queue q
      let armed : DeliveryQueue := { d with armed := d.armed || d.notify }
      let put : State := { s with queues := s.queues.set q armed }
      let nothing : List Byte := [placeByte q, 0, byteOf d.waiting.length, byteOf d.lent.length]
      (d.held.isSome → exec (.fetch tag (placeByte q) max wait) s = .next (s.answered tag 0x30 .queueBusy nothing))
        ∧ (d.held = none → 8 ≤ d.lent.length →
          exec (.fetch tag (placeByte q) max wait) s = .next (put.answered tag 0x30 .lentFull nothing))
        ∧ (d.held = none → d.lent.length < 8 → d.waiting = [] → wait = 0 →
          exec (.fetch tag (placeByte q) max wait) s = .next (put.answered tag 0x30 .ok nothing))
        ∧ (d.held = none → d.lent.length < 8 → d.waiting = [] → wait ≠ 0 →
          exec (.fetch tag (placeByte q) max wait) s = .next { s.holding tag 0x30 with
            queues := s.queues.set q { armed with held := some ⟨tag, max.toNat, ⟨wait.toNat * 1000, 1000⟩⟩ } })
        ∧ (d.held = none → d.lent.length < 8 → d.waiting ≠ [] → (∀ i, (s.slot i).data.length ≤ 255) →
          (d.lent ++ d.waiting).Nodup →
          ∃ t k, exec (.fetch tag (placeByte q) max wait) s = .next t ∧ Lends put t q max.toNat k
            ∧ t.hl = (s.answered tag 0x30 .ok (t.fetchResults q (d.waiting.take k))).hl))
    ∧ ∀ (s : State) (after : Nat) (q : QueueNo) (h : HeldFetch),
      ((s.pass after).queue q).held = some h → h.timer.wait = 0 →
      ∃ t, exec (.waitTimerExpiry q after) s = .next t
        ∧ t.queue q = { s.queue q with held := none } ∧ t.time = (s.pass after).time
        ∧ t.pool = s.pool ∧ t.ru = s.ru ∧ t.outgoing = s.outgoing ∧ t.hl.slots = s.hl.slots
        ∧ t.hl.incoming = s.hl.incoming ++ [replyPacket h.tag 0x30 .ok
            [placeByte q, 0, byteOf (s.queue q).waiting.length, byteOf (s.queue q).lent.length]]

/-- RELEASE and RETURN name lent frames by distinct delivery numbers, or all of them. A repeated number is BAD_PARAM with its
position, where several are repeated that of the first repetition in the list (the model's choice, log 29), and a number that
is not lent UNKNOWN_DELIVERY with the first such number; neither changes anything. RELEASE frees the slots of the frames
named (R103). RETURN puts them, in lent-list order, at the head of the waiting list, without their delivery numbers, and its
reply goes before that of a held fetch, which is lent the longest run of what then waits, as FETCH lends it (R100, R102,
R104). That a freed slot is cleared is the model's choice (log 24). -/
def Obligations.ReleaseFreesAndReturnRequeues : Prop :=
  ∀ (s : State) (tag : Byte) (q : QueueNo), ReadyAt s tag .qm →
    (∀ (front back : List Half) (k : Half), (front ++ k :: back).length ≤ 8 → 0 ∉ front ++ k :: back →
        front.Nodup → k ∈ front →
        exec (.release tag (placeByte q) (.listed (front ++ k :: back))) s
            = .next (s.answered tag 0x31 .badParam [byteOf (3 + front.length)])
          ∧ exec (.returnFrames tag (placeByte q) (.listed (front ++ k :: back))) s
            = .next (s.answered tag 0x32 .badParam [byteOf (3 + front.length)]))
      ∧ (∀ (front back : List Half) (k : Half), (front ++ k :: back).length ≤ 8 → 0 ∉ front ++ k :: back →
        (front ++ k :: back).Nodup → (∀ j ∈ front, j ∈ s.lentNumbers q) → k ∉ s.lentNumbers q →
        exec (.release tag (placeByte q) (.listed (front ++ k :: back))) s
            = .next (s.answered tag 0x31 .unknownDelivery (le16 k))
          ∧ exec (.returnFrames tag (placeByte q) (.listed (front ++ k :: back))) s
            = .next (s.answered tag 0x32 .unknownDelivery (le16 k)))
      ∧ ∀ (numbers : RawNumbers) (named : List SlotNo),
        (numbers = .all ∧ named = (s.queue q).lent
          ∨ ∃ ks, numbers = .listed ks ∧ 1 ≤ ks.length ∧ ks.length ≤ 8 ∧ 0 ∉ ks ∧ ks.Nodup
              ∧ (∀ k ∈ ks, k ∈ s.lentNumbers q)
              ∧ named = (s.queue q).lent.filter (fun i => ks.contains (s.slot i).record.deliveryNumber)) →
        let kept := (s.queue q).lent.filter (fun i => !named.contains i)
        (∃ t, exec (.release tag (placeByte q) numbers) s = .next t
            ∧ t.queues = s.queues.set q { s.queue q with
                lent := kept
                counters := { (s.queue q).counters with
                  released := satAdd (s.queue q).counters.released named.length } }
            ∧ (∀ i, i ∈ named → t.slot i = {}) ∧ (∀ i, i ∉ named → t.slot i = s.slot i)
            ∧ t.pool.counters.freed = satAdd s.pool.counters.freed named.length
            ∧ { t with hl := s.hl, queues := s.queues, pool := s.pool } = s
            ∧ t.hl = (s.answered tag 0x31 .ok
                [byteOf named.length, byteOf (s.queue q).waiting.length, byteOf kept.length]).hl)
          ∧ ((s.queue q).held = none →
            ∃ t, exec (.returnFrames tag (placeByte q) numbers) s = .next t
              ∧ t.queues = s.queues.set q { s.queue q with
                  waiting := named ++ (s.queue q).waiting, lent := kept
                  counters := { (s.queue q).counters with
                    returned := satAdd (s.queue q).counters.returned named.length } }
              ∧ (∀ i, i ∈ named → t.slot i = { s.slot i with
                  state := .queued, record := { (s.slot i).record with deliveryNumber := 0 } })
              ∧ (∀ i, i ∉ named → t.slot i = s.slot i)
              ∧ { t with hl := s.hl, queues := s.queues, pool := s.pool } = s
              ∧ t.hl = (s.answered tag 0x32 .ok
                  [byteOf named.length, byteOf (named.length + (s.queue q).waiting.length), byteOf kept.length]).hl)
          ∧ (∀ h, (s.queue q).held = some h → named ++ (s.queue q).waiting ≠ [] → kept.length < 8 → 1 ≤ h.max →
            ((s.queue q).lent ++ (s.queue q).waiting).Nodup → (∀ i, (s.slot i).data.length ≤ 255) →
            let back : State := { s with
              queues := s.queues.set q { s.queue q with
                held := none, waiting := named ++ (s.queue q).waiting, lent := kept
                counters := { (s.queue q).counters with
                  returned := satAdd (s.queue q).counters.returned named.length } }
              pool := { s.pool with slots := Vector.ofFn (fun i => if i ∈ named then { s.slot i with
                state := .queued, record := { (s.slot i).record with deliveryNumber := 0 } } else s.slot i) } }
            ∃ t k, exec (.returnFrames tag (placeByte q) numbers) s = .next t ∧ Lends back t q h.max k
              ∧ t.hl = ((s.answered tag 0x32 .ok
                  [byteOf named.length, byteOf (named.length + (s.queue q).waiting.length), byteOf kept.length]).handToHL
                    (replyPacket h.tag 0x30 .ok (t.fetchResults q ((named ++ (s.queue q).waiting).take k)))).hl)

/-! ### Transmission -/

/-- TRANSMIT is refused LINE_OFF, LINE_BUSY, TX_QUEUE_FULL, HOST_QUOTA or NO_SLOT, in that order, storing nothing. Else the
data fills a slot charged to the host, and an entry with the next transmit number not in use joins the tail of the line's
queue; it is taken up at once where the transmitter is IDLE, and waits otherwise (R113 to R117, R120). Whether a break
that was not handed on holds the pre-quiet timer is a free value (log 16). -/
def Obligations.TransmitQueuesTheData : Prop :=
  ∀ (s : State) (tag : Byte) (n : LineNo) (data : List Byte) (preQuiet : Half) (notify : Bool), ReadyAt s tag (.lp n) →
    (s.port n).Sound → 1 ≤ data.length → data.length ≤ 255 →
    let c : Instr := .transmit tag (placeByte n) data preQuiet (flagByte notify)
    ((s.port n).lineState = .off → exec c s = .next (s.answered tag 0x38 .lineOff []))
      ∧ ((s.port n).lineState = .draining → exec c s = .next (s.answered tag 0x38 .lineBusy []))
      ∧ ((s.port n).lineState = .active → (s.port n).txQueue.length = 16 →
        exec c s = .next (s.answered tag 0x38 .txQueueFull []))
      ∧ ((s.port n).lineState = .active → (s.port n).txQueue.length < 16 → 32 ≤ s.charge .host →
        exec c s = .next (({ s with pool := { s.pool with counters :=
          { s.pool.counters with refusedQuota := satInc s.pool.counters.refusedQuota } } } : State).answered tag 0x38
            .hostQuota []))
      ∧ ((s.port n).lineState = .active → (s.port n).txQueue.length < 16 → s.charge .host < 32 → s.freeSlots = 0 →
        exec c s = .next (({ s with pool := { s.pool with counters :=
          { s.pool.counters with refusedNoSlot := satInc s.pool.counters.refusedNoSlot } } } : State).answered tag 0x38
            .noSlot []))
      ∧ ((s.port n).lineState = .active → (s.port n).txQueue.length < 16 → s.charge .host < 32 → 0 < s.freeSlots →
        ∃ t i number, exec c s = .next t ∧ (s.slot i).state = .free
          ∧ t.slot i = { state := (t.slot i).state, owner := some .host, data := data, record := {} }
          ∧ (∀ j, j ≠ i → t.slot j = s.slot j)
          ∧ number ∉ (s.port n).hostNumbers
          ∧ ((s.port n).nextTxNumber ∉ (s.port n).hostNumbers → number = (s.port n).nextTxNumber)
          ∧ (t.port n).nextTxNumber = nextNumber number
          ∧ (t.port n).txQueue = (s.port n).txQueue ++ [⟨i, .host number notify, preQuiet⟩]
          ∧ (t.port n).txCounters = { (s.port n).txCounters with
              hostPlaced := satInc (s.port n).txCounters.hostPlaced }
          ∧ ((s.port n).txState ≠ .idle →
              (t.port n).txState = (s.port n).txState ∧ (t.port n).onWire = (s.port n).onWire
                ∧ (t.slot i).state = .txQueued)
          ∧ ((s.port n).txState = .idle → TakenUp s t n ⟨i, .host number notify, preQuiet⟩)
          ∧ (∀ m, m ≠ n → t.port m = s.port m ∧ t.unit m = s.unit m)
          ∧ t.re = s.re ∧ t.queues = s.queues ∧ t.ru = s.ru
          ∧ t.hl = (s.answered tag 0x38 .ok ([placeByte n] ++ le16 number ++ [byteOf ((s.port n).txQueue.length + 1)])).hl)

/-- FLUSH_TX discards every entry not in SENDING, frees their slots, raises TX_DONE FLUSHED for the host entries with
notify in queue order, and names the entry left in SENDING (R119, R121, R125). Where that leaves a DRAINING line with
nothing to send, the drain ends, and its reply goes first (R137; log 14). That a freed slot is cleared is the model's
choice (log 24). -/
def Obligations.FlushDiscardsWaitingEntries : Prop :=
  ∀ (s : State) (tag : Byte) (n : LineNo), ReadyAt s tag (.lp n) → (s.port n).Sound →
    (∀ e ∈ (s.port n).split.2, ∀ a ∈ (s.port n).split.1, e.slot ≠ a.slot) →
    let flushed := (s.port n).split.2
    let replies (before : List OutPacket) : HostLink := { (s.holding tag 0x39).hl with
      incoming := s.hl.incoming ++ before ++
        [replyPacket tag 0x39 .ok (byteOf flushed.length :: optBytes TxEntry.leftBytes (s.port n).split.1)] }
    ∃ t, exec (.flushTx tag (placeByte n)) s = .next t
      ∧ (t.port n).txQueue = (s.port n).split.1.toList
      ∧ (∀ e ∈ flushed, t.slot e.slot = {}) ∧ (∀ i, (∀ e ∈ flushed, e.slot ≠ i) → t.slot i = s.slot i)
      ∧ t.ru = { s.ru with inbox := s.ru.inbox ++ flushed.flatMap (doneReport n .flushed) }
      ∧ (t.port n).txCounters = { (s.port n).txCounters with
          flushed := satAdd (s.port n).txCounters.flushed flushed.length }
      ∧ (∀ m, m ≠ n → t.port m = s.port m ∧ t.unit m = s.unit m) ∧ t.re = s.re ∧ t.queues = s.queues
      ∧ ((∃ k, (s.port n).txState = .sending k) ∨ (s.port n).txState = .trailing →
          (t.port n).txState = (s.port n).txState ∧ (t.port n).onWire = (s.port n).onWire
            ∧ (t.port n).drain = (s.port n).drain ∧ t.hl = replies [])
      ∧ ((∀ k, (s.port n).txState ≠ .sending k) → (s.port n).txState ≠ .trailing →
          (t.port n).txState = .idle ∧ (t.port n).drain = none
            ∧ ((s.port n).drain = none → (t.port n).config = (s.port n).config ∧ t.hl = replies [])
            ∧ ∀ d, (s.port n).drain = some d → (t.port n).config = d.pending
                ∧ (d.requester = .detached → t.hl = replies [])
                ∧ ∀ target, d.requester = .attached target → d.cutDone = false →
                  t.hl = replies [replyPacket target 0x3A .ok [placeByte n, 1, 1, 0, 0]])

/-- The last stop bit of a character counts it. Within a frame the next byte goes out; at its end the entry completes: its
slot is freed, TX_DONE SENT is raised for a host entry with notify, and the next head is taken up, or the transmitter is
IDLE and a drain ends (R117, R118, R126, R137). A character in TRAILING ends it, and the head of what has been queued
since is taken up (R114). Whether a break that was not handed on holds the pre-quiet timer is a free value (log 16); that
a freed slot is cleared is the model's choice (log 24). -/
def Obligations.CharacterSentAdvancesTheTransmitter : Prop :=
  ∀ (s : State) (n : LineNo), (s.port n).Sound →
    let p := s.port n
    let counted : TxCounters := { p.txCounters with bytesSent := satInc p.txCounters.bytesSent }
    (∀ k e rest b, p.txState = .sending k → p.txQueue = e :: rest → (s.slot e.slot).data[k + 1]? = some b →
        exec (.characterSent n) s = .next { s with ports := s.ports.set n { p with
          txState := .sending (k + 1), onWire := some (p.config.sent b), txCounters := counted } })
      ∧ (∀ k e rest, p.txState = .sending k → p.txQueue = e :: rest → (s.slot e.slot).data.length ≤ k + 1 →
        (∀ a ∈ rest, a.slot ≠ e.slot ∧ (s.slot a.slot).state = .txQueued) →
        ∃ t, exec (.characterSent n) s = .next t ∧ t.slot e.slot = {} ∧ (t.port n).txQueue = rest
          ∧ t.ru = { s.ru with inbox := s.ru.inbox ++ doneReport n .sent e }
          ∧ (t.port n).txCounters = { counted with sent := satInc p.txCounters.sent }
          ∧ t.re = s.re ∧ t.queues = s.queues ∧ (∀ m, m ≠ n → t.port m = s.port m ∧ t.unit m = s.unit m)
          ∧ (∀ a back, rest = a :: back → TakenUp s t n a)
          ∧ ((∀ j, (t.port n).txState ≠ .sending j) → (t.port n).ldir = false ∧ (t.unit n).lineSending = false)
          ∧ (rest = [] → p.drain = none →
              (t.port n).txState = .idle ∧ (t.port n).onWire = none ∧ t.unit n = (s.unit n).endSending
                ∧ t.hl = s.hl)
          ∧ ∀ d, rest = [] → p.drain = some d → DrainEnded s t n d)
      ∧ (∀ a back, p.txState = .trailing → p.txQueue = a :: back → (s.slot a.slot).state = .txQueued →
        ∃ t, exec (.characterSent n) s = .next t ∧ TakenUp s t n a ∧ (t.port n).txQueue = p.txQueue
          ∧ (t.port n).txCounters = counted ∧ (t.port n).config = p.config ∧ (t.port n).drain = p.drain
          ∧ t.slot a.slot = { s.slot a.slot with state := (t.slot a.slot).state }
          ∧ (∀ j, j ≠ a.slot → t.slot j = s.slot j)
          ∧ ((∀ j, (t.port n).txState ≠ .sending j) → (t.port n).ldir = false ∧ (t.unit n).lineSending = false)
          ∧ t.re = s.re ∧ t.queues = s.queues ∧ t.ru = s.ru ∧ t.hl = s.hl
          ∧ ∀ m, m ≠ n → t.port m = s.port m ∧ t.unit m = s.unit m)
      ∧ (p.txState = .trailing → p.txQueue = [] →
        ∃ t, exec (.characterSent n) s = .next t ∧ (t.port n).txState = .idle ∧ (t.port n).onWire = none
          ∧ (t.port n).txCounters = counted ∧ (t.port n).ldir = false ∧ (t.unit n).lineSending = false
          ∧ t.pool = s.pool ∧ t.ru = s.ru
          ∧ (p.drain = none → t.hl = s.hl) ∧ ∀ d, p.drain = some d → DrainEnded s t n d)

/-! ### Serial lines -/

/-- A character goes out as a start bit at space, its data bits least significant first, the parity bit where the line has
one, and its stop bits at mark (R117, R129). Sampled in the same configuration it is GOOD, with the byte's data bits; with
its parity bit inverted it is PARITY; with its stop bit at space it is FRAMING, or not yet ended where every sample was
space (R130). What EVEN and ODD mean is presumed (log 18). A byte of the host link goes out as such a character of 8 data
bits, no parity and one stop bit (R144). -/
def Obligations.SentCharactersAreReceivedGood : Prop :=
  ∀ (c : LineConfig) (b : Byte),
    let x := (c.sent b).levels
    let value := c.dataBits.cut b
    let parityAt := 1 + c.dataBits.count
    let stopAt := parityAt + if c.parity = .noParity then 0 else 1
    let heard (levels : List Bool) : StopSample :=
      let (data, parityBit, stopBit) := c.samples levels
      c.judge data parityBit stopBit
    x.length = c.charBits ∧ x.head? = some false ∧ (∀ i, i < c.dataBits.count → x[1 + i]? = some (b.getLsbD i))
      ∧ (∀ i, stopAt ≤ i → i < x.length → x[i]? = some true)
      ∧ heard x = .ended value .good
      ∧ (c.parity ≠ .noParity → heard (x.set parityAt !(bitAt x parityAt)) = .ended value .parity)
      ∧ heard (x.set stopAt false)
        = (if value = 0 ∧ (c.parity ≠ .noParity → bitAt x parityAt = false) then .allSpace else .ended value .framing)
      ∧ byteLevels b = (({ dataBits := .eight, parity := .noParity, stopBits := .one } : LineConfig).sent b).levels

/-- The receiver follows its samples (R130 to R132): a start bit starts a character and a glitch does not; a return to
mark ends WAIT_MARK outside a break, and the space that a FRAMING character has left; a character with every sample at
space makes it CANDIDATE, uncounted. A character that ends, or a CANDIDATE that returns to mark, is counted by its status,
leaves the receiver IDLE and restarts a pre-quiet timer (R115, R143). It goes to the unit only where the line hands on.
There it restarts the quiet timer in HUNT_QUIET (R10), is ignored in HUNT_BREAK (R13), and where it opens no frame in
HUNT_ANY or HUNT_LEAD, it sends the unit to HUNT_QUIET under QUIET and QUIET_LEAD, to HUNT_BREAK under BREAK_LEAD, and
nowhere under the other forms (R11, R12). What is known of the level of the line, and the field that tells of a space
which may become a break, are the model's own (logs 9 and 13). -/
def Obligations.ReceiverFollowsItsSamples : Prop :=
  ∀ (s : State) (n : LineNo),
    let p := s.port n
    (p.receiver = .idle →
        exec (.startBit n false) s
            = .next { s with ports := s.ports.set n { p with receiver := .receiving, breakWatch := false, level := .unknown } }
          ∧ exec (.startBit n true) s = .next { s with ports := s.ports.set n { p with breakWatch := false, level := .mark } })
      ∧ (p.receiver = .waitMark ∧ p.breakInProgress = false ∨ p.receiver = .idle ∧ p.breakWatch = true →
        exec (.returnToMark n) s
          = .next { s with ports := s.ports.set n { p with receiver := .idle, breakWatch := false, level := .mark } })
      ∧ (∀ data parityBit stopBit, p.receiver = .receiving → p.config.judge data parityBit stopBit = .allSpace →
        exec (.characterReceived n data parityBit stopBit) s
          = .next { s with ports := s.ports.set n { p with receiver := .candidate, level := .space } })
      ∧ ∀ (c : Instr) (value : Byte) (status : CharStatus),
        Hears s n c value status → p.txState ≠ .waitTurn →
        ∃ t, exec c s = .next t ∧ (t.port n).receiver = .idle
          ∧ ((t.port n).breakWatch = true ↔ p.receiver = .receiving ∧ status = .framing)
          ∧ (t.port n).rxCounters = { p.rxCounters with
              characters := satInc p.rxCounters.characters
              parityErrors := if status = .parity then satInc p.rxCounters.parityErrors else p.rxCounters.parityErrors
              framingErrors := if status = .framing then satInc p.rxCounters.framingErrors
                else p.rxCounters.framingErrors }
          ∧ (∀ e rest, p.txState = .waitQuiet → p.txQueue = e :: rest →
              (t.port n).preQuiet = some (tuStarted e.preQuiet))
          ∧ (t.port n).txQueue = p.txQueue ∧ (t.port n).txState = p.txState ∧ t.queues = s.queues ∧ t.hl = s.hl
          ∧ (∀ m, m ≠ n → t.port m = s.port m ∧ t.unit m = s.unit m)
          ∧ (p.drain.isSome ∨ p.config.duplex = .half ∧ ((∃ k, p.txState = .sending k) ∨ p.txState = .trailing) →
              t.units = s.units ∧ t.pool = s.pool ∧ t.ru = s.ru ∧ t.re = s.re)
          ∧ ∀ plan, p.drain = none →
              (p.config.duplex = .full ∨ (∀ k, p.txState ≠ .sending k) ∧ p.txState ≠ .trailing) →
              (s.unit n).plan = some plan →
              let u := s.unit n
              let quieted : CaptureUnit := { u with
                phase := .huntQuiet, gap := none, span := none
                quiet := if u.breakInProgress = true ∨ u.lineSending = true then none
                  else some (tuStarted (plan.quiet.getD 0)) }
              let same := t.pool = s.pool ∧ t.ru = s.ru ∧ t.re = s.re
              (u.phase = .huntQuiet → t.unit n = { quieted with gap := u.gap, span := u.span } ∧ same)
                ∧ (u.phase = .huntBreak → t.unit n = u ∧ same)
                ∧ (u.phase = .huntAny → status ≠ .good →
                  t.unit n = (if plan.startForm = .quiet then quieted else u) ∧ same)
                ∧ (u.phase = .huntLead → ¬(status = .good ∧ plan.lead = some value) →
                  t.unit n = (if plan.startForm = .quietLead then quieted
                    else if plan.startForm = .brkLead then
                      { u with phase := .huntBreak, quiet := none, gap := none, span := none }
                    else u) ∧ same)

/-- A break is detected in CANDIDATE, in IDLE at the space that a FRAMING character has left, or in a WAIT_MARK that was
entered at a space: it is counted, stops the pre-quiet timer, and reaches the unit where the line hands on (R131). There
HUNT_BREAK goes on to HUNT_ANY or HUNT_LEAD (R13), the QUIET forms go to HUNT_QUIET with the quiet timer stopped until the
break ends, and the other hunts stay (R10 to R12). A frame closes with BREAK and is kept, and a skip ends (R19, R21, R23);
after either the unit re-arms, with the break as the start condition of the next hunt under the BREAK forms (R24). The end
of a break, at the return to mark, starts the pre-quiet timer afresh and, in HUNT_QUIET, the quiet timer (R9, R115); but
the end of a break detected while a half-duplex line was sending is not handed to the unit (R131), and whether it is to
the pre-quiet timer, where R115 and R131 disagree, is a free value (log 16). The fields for a space that may become a
break, for the level, and for a break that was not handed on, are the model's own (logs 9 and 13). -/
def Obligations.BreaksAreDetectedAndEnd : Prop :=
  ∀ (s : State) (n : LineNo),
    let p := s.port n
    let u := s.unit n
    let broken : LinePort := { p with
      breakInProgress := true, breakWatch := false, breakDeaf := p.deaf, receiver := .waitMark, level := .space
      rxCounters := { p.rxCounters with breaks := satInc p.rxCounters.breaks }, preQuiet := none }
    let told : CaptureUnit := { u with breakInProgress := true }
    (p.receiver = .candidate ∨ (p.receiver = .waitMark ∨ p.receiver = .idle) ∧ p.breakWatch = true →
        (p.handsOn = false → exec (.breakDetected n) s = .next { s with ports := s.ports.set n broken })
          ∧ (p.handsOn = true → p.txState ≠ .waitTurn →
            ∃ t, exec (.breakDetected n) s = .next t ∧ t.port n = broken ∧ (t.unit n).breakInProgress = true
              ∧ (∀ m, m ≠ n → t.port m = s.port m ∧ t.unit m = s.unit m) ∧ t.queues = s.queues ∧ t.hl = s.hl
              ∧ (u.plan = none → t.unit n = told ∧ t.pool = s.pool ∧ t.re = s.re ∧ t.ru = s.ru)
              ∧ (∀ plan, u.plan = some plan → u.phase ≠ .collecting → u.phase ≠ .skipping →
                  t.pool = s.pool ∧ t.re = s.re ∧ t.ru = s.ru
                    ∧ t.unit n = match u.phase, plan.startForm with
                      | .huntBreak, .brk => { told with phase := .huntAny, quiet := none, gap := none, span := none }
                      | .huntBreak, .brkLead => { told with phase := .huntLead, quiet := none, gap := none, span := none }
                      | .huntAny, .quiet => { told with phase := .huntQuiet, quiet := none, gap := none, span := none }
                      | .huntLead, .quietLead => { told with phase := .huntQuiet, quiet := none, gap := none, span := none }
                      | .huntQuiet, _ => { told with quiet := none }
                      | _, _ => told)
              ∧ (∀ plan f, u.plan = some plan → u.phase = .collecting → u.frame = some f → u.skip = none →
                  (t.unit n).lastClose = some .brk ∧ Rearmed u (t.unit n) plan true
                    ∧ (t.unit n).counters = u.counters.keep .brk (s.slot f.slot).data.length
                    ∧ (t.unit n).nextSeq = u.nextSeq
                    ∧ t.re = { s.re with handed := s.re.handed ++ [plan.handed n f] }
                    ∧ t.slot f.slot = { s.slot f.slot with
                        state := .withRE, record := f.record n .brk s.time }
                    ∧ (∀ j, j ≠ f.slot → t.slot j = s.slot j)
                    ∧ t.ru = { s.ru with inbox := s.ru.inbox ++ u.doneReports plan n .brk })
              ∧ ∀ plan k, u.plan = some plan → u.phase = .skipping → u.skip = some k → u.frame = none →
                  (t.unit n).lastClose = some .lost ∧ Rearmed u (t.unit n) plan true
                    ∧ (t.unit n).counters = u.counters ∧ (t.unit n).nextSeq = u.nextSeq
                    ∧ t.pool = s.pool ∧ t.re = s.re
                    ∧ t.ru = { s.ru with inbox := s.ru.inbox ++ u.doneReports plan n .lost }))
      ∧ (p.breakInProgress = true →
        ∃ t, exec (.breakEnd n) s = .next t ∧ { t with ports := s.ports, units := s.units } = s
          ∧ t.port n = { p with
              breakInProgress := false, breakWatch := false, breakDeaf := false, level := .mark
              receiver := if p.receiver = .waitMark then .idle else p.receiver
              preQuiet := if (p.breakDeaf = false ∨ Config.deafBreakCounts = true) ∧ p.txState = .waitQuiet then
                p.txQueue.head?.map (fun e => tuStarted e.preQuiet) else p.preQuiet }
          ∧ (t.unit n).breakInProgress = false ∧ (t.unit n).phase = u.phase
          ∧ (p.breakDeaf = true → u.breakInProgress = false → t.units = s.units)
          ∧ (∀ plan, u.plan = some plan → u.phase = .huntQuiet → u.breakInProgress = true →
              u.lineSending = false → (t.unit n).quiet = some (tuStarted (plan.quiet.getD 0)))
          ∧ ∀ m, m ≠ n → t.port m = s.port m ∧ t.unit m = s.unit m)

/-- LINE_SET on a DRAINING line is refused LINE_BUSY. On an OFF line it puts the configuration in force, starting the
receiver in WAIT_MARK where it switches the line ON; a character that outlived the going OFF is then known to the unit of a
half-duplex line as sending (R29, R114; log 19). On an ACTIVE line it ends a frame in progress CANCELLED and kept, or a
skip, and puts a staged plan in force; with nothing to send the configuration is then in force and an armed unit hunts
afresh; otherwise a drain starts, the configuration waits with it, an armed unit is PAUSED, and there is no reply yet (R26,
R132 to R136). A drain limit of 0 cuts the drain at its start, which ends it unless a character is going out (R138; that the
turn is not tested before the cut is the model's choice, log 12). That a line switched ON watches for a break, one already in
progress among them, is the model's choice (log 13). That a freed slot is cleared is the model's choice (log
24). -/
def Obligations.LineSetAppliesOrDrains : Prop :=
  ∀ (s : State) (tag : Byte) (n : LineNo) (c : LineConfig) (limit : Half), ReadyAt s tag (.lp n) →
    (s.port n).Sound → (s.unit n).Sound → limit.toNat ≤ 60000 →
    let p := s.port n
    let plan := (s.unit n).staged <|> (s.unit n).plan
    ((s.port n).lineState = .draining →
        exec (.lineSet tag (placeByte n) c.raw limit) s = .next (s.answered tag 0x3A .lineBusy []))
      ∧ (p.lineState = .off → c.mode = .off →
        exec (.lineSet tag (placeByte n) c.raw limit) s = .next (
          ({ s with ports := s.ports.set n { p with config := c } } : State).answered tag 0x3A .ok
            [placeByte n, 0, 0, 0, 0]))
      ∧ (p.lineState = .off → c.mode = .on →
        ∃ t, exec (.lineSet tag (placeByte n) c.raw limit) s = .next t
          ∧ t.port n = { p with
              config := c, receiver := .waitMark, breakWatch := true, level := (t.port n).level }
          ∧ (∀ m, m ≠ n → t.port m = s.port m) ∧ { t with ports := s.ports, units := s.units, hl := s.hl } = s
          ∧ t.units = (if c.duplex = .half ∧ p.txState = .trailing then s.units.set n (s.unit n).beginSending else s.units)
          ∧ t.hl = (s.answered tag 0x3A .ok [placeByte n, 0, 1, 0, 0]).hl)
      ∧ (p.lineState = .active → c.mode = .on →
        ∃ t, exec (.lineSet tag (placeByte n) c.raw limit) s = .next t
          ∧ (t.unit n).staged = none ∧ (t.unit n).plan = plan ∧ (t.unit n).frame = none ∧ (t.unit n).skip = none
          ∧ (t.unit n).gap = none ∧ (t.unit n).span = none ∧ (t.unit n).nextSeq = (s.unit n).nextSeq
          ∧ (∀ old f, (s.unit n).plan = some old → (s.unit n).frame = some f →
              (t.unit n).lastClose = some .cancelled
                ∧ t.re = { s.re with handed := s.re.handed ++ [old.handed n f] })
          ∧ ((s.unit n).frame = none → t.re = s.re)
          ∧ (∀ m, m ≠ n → t.port m = s.port m ∧ t.unit m = s.unit m) ∧ t.queues = s.queues
          ∧ (p.txQueue = [] → p.onWire = none →
              t.ru = s.ru ∧ (t.port n).config = c ∧ (t.port n).drain = none ∧ (t.port n).lineState = .active
                ∧ (t.unit n).phase = (match plan with | some x => x.startForm.firstState | none => .disarmed)
                ∧ t.hl = (s.answered tag 0x3A .ok [placeByte n, 0, 1, 0, 0]).hl)
          ∧ (¬(p.txQueue = [] ∧ p.onWire = none) → limit = 0 →
              (t.port n).txQueue = [] ∧ (∀ e ∈ p.txQueue, t.slot e.slot = {})
                ∧ t.ru = { s.ru with inbox := s.ru.inbox ++ p.cutReports n }
                ∧ (p.onWire = none →
                    (t.port n).config = c ∧ (t.port n).drain = none
                      ∧ t.hl = (s.answered tag 0x3A .ok
                        [placeByte n, 2, 1, byteOf p.split.1.toList.length, byteOf p.split.2.length]).hl)
                ∧ (p.onWire.isSome →
                    (t.port n).config = p.config ∧ (t.port n).txState = .trailing
                      ∧ (t.port n).drain = some { pending := c, limit := 0, timer := none, requester := .attached tag,
                                                  cutDone := true, aborted := p.split.1.toList.length,
                                                  flushed := p.split.2.length }
                      ∧ t.hl = (s.holding tag 0x3A).hl))
          ∧ (¬(p.txQueue = [] ∧ p.onWire = none) → limit ≠ 0 →
              t.ru = s.ru ∧ (t.port n).config = p.config ∧ (t.port n).txQueue = p.txQueue ∧ (t.port n).lineState = .draining
                ∧ (t.port n).drain = some { pending := c, limit := limit, timer := some ⟨limit.toNat * 1000, 1000⟩,
                                            requester := .attached tag, cutDone := false, aborted := 0, flushed := 0 }
                ∧ (p.txState ≠ .waitTurn → (t.port n).txState = p.txState)
                ∧ (p.txState = .waitTurn → (t.port n).txState = .sending 0)
                ∧ (t.unit n).phase = (if plan.isSome then .paused else .disarmed)
                ∧ t.hl = (s.holding tag 0x3A).hl))

/-- LINE_SET switches an ACTIVE line OFF at once: its unit is DISARMED with a frame in progress dropped without a loss and
the frame sequence at 1 again, its queue is emptied with the entry in SENDING aborted and the others flushed, each slot
freed, its receiver stops, and the reply carries the two counts (R28, R119, R134). A character going out ends in TRAILING.
An entry in WAIT_TURN is flushed, though the frame that held its turn ends here: the turn is not tested first (the model's
choice, log 12). The unit's line-sending flag is cleared here (R4, R28; log 19). That a freed slot is cleared is the model's
choice (log 24). -/
def Obligations.SwitchingOffEmptiesTheLine : Prop :=
  ∀ (s : State) (tag : Byte) (n : LineNo) (c : LineConfig) (limit : Half), ReadyAt s tag (.lp n) →
    (s.port n).Sound → (s.unit n).Sound → limit.toNat ≤ 60000 → (s.port n).lineState = .active → c.mode = .off →
    ∃ t, exec (.lineSet tag (placeByte n) c.raw limit) s = .next t
      ∧ (t.port n).config = c ∧ (t.port n).lineState = .off ∧ (t.port n).receiver = .stopped
      ∧ (t.port n).txQueue = [] ∧ (t.port n).onWire = (s.port n).onWire
      ∧ (t.port n).txState = (if (s.port n).onWire.isSome then .trailing else .idle)
      ∧ (t.port n).rxCounters = (s.port n).rxCounters ∧ (t.port n).losses = (s.port n).losses
      ∧ (t.port n).txCounters = { (s.port n).txCounters with
          aborted := satAdd (s.port n).txCounters.aborted (s.port n).split.1.toList.length
          flushed := satAdd (s.port n).txCounters.flushed (s.port n).split.2.length }
      ∧ (∀ e ∈ (s.port n).txQueue, t.slot e.slot = {}) ∧ (∀ f ∈ (s.unit n).frame, t.slot f.slot = {})
      ∧ (∀ i, (∀ e ∈ (s.port n).txQueue, e.slot ≠ i) → (∀ f ∈ (s.unit n).frame, f.slot ≠ i) → t.slot i = s.slot i)
      ∧ t.ru = { s.ru with inbox := s.ru.inbox ++ (s.port n).cutReports n }
      ∧ (t.unit n).phase = .disarmed ∧ (t.unit n).plan = none ∧ (t.unit n).staged = none ∧ (t.unit n).nextSeq = 1
      ∧ (t.unit n).frame = none ∧ (t.unit n).skip = none ∧ (t.unit n).quiet = none ∧ (t.unit n).gap = none
      ∧ (t.unit n).span = none ∧ (t.unit n).lineSending = false
      ∧ t.re = s.re ∧ t.queues = s.queues ∧ (∀ m, m ≠ n → t.port m = s.port m ∧ t.unit m = s.unit m)
      ∧ t.hl = (s.answered tag 0x3A .ok
          [placeByte n, 0, 0, byteOf (s.port n).split.1.toList.length, byteOf (s.port n).split.2.length]).hl

/-- The expiry of the drain limit timer, once its time has passed, cuts the drain: the
entry in SENDING is aborted, the others flushed, each slot freed. With no character going out the drain ends there, answered
CUT with the two counts; with one, the drain keeps the counts and ends with that character (R119, R125, R138). That a freed
slot is cleared is the model's choice (log 24). -/
def Obligations.DrainLimitCutsTheQueue : Prop :=
  ∀ (s : State) (n : LineNo) (after : Nat) (d : Drain) (timer : Timer), ((s.pass after).port n).drain = some d →
    d.timer = some timer → timer.wait = 0 → (s.port n).Sound → (s.unit n).Sound → (s.port n).config.mode = .on →
    let cut : Drain := { d with
      timer := none, cutDone := true, aborted := (s.port n).split.1.toList.length, flushed := (s.port n).split.2.length }
    ∃ t, exec (.drainLimitExpiry n after) s = .next t
      ∧ (t.port n).txQueue = [] ∧ (∀ e ∈ (s.port n).txQueue, t.slot e.slot = {})
      ∧ (∀ i, (∀ e ∈ (s.port n).txQueue, e.slot ≠ i) → t.slot i = s.slot i)
      ∧ t.ru = { s.ru with inbox := s.ru.inbox ++ (s.port n).cutReports n }
      ∧ t.time = (s.pass after).time
      ∧ ((s.port n).onWire = none → DrainEnded s t n cut)
      ∧ ((s.port n).onWire.isSome →
          (t.port n).txState = .trailing ∧ (t.port n).onWire = (s.port n).onWire
            ∧ (t.port n).config = (s.port n).config ∧ (t.port n).drain = some cut
            ∧ t.hl.slots = s.hl.slots ∧ t.hl.incoming = s.hl.incoming ∧ t.outgoing = s.outgoing)

/-! ### Reports and counters -/

/-- RU takes the next report of a block, whatever other blocks have raised. With reporting off it is gone; with 32 reports
queued it is counted as lost; else it takes the next sequence number and the last place of the queue, and a copy is handed
to HL (R161, R162). RU and the Line Port of the line each take a loss in a happening of its own (R167): RU raises its
counter of the cause, and with reporting on and no LOSS report pending then queues a LOSS report with its nine counters, or
counts it as lost where the queue is full (R162, R168); the Line Port raises the line's own counter. That the command's
operand says which of them takes it is the model's choice (log 7). -/
def Obligations.ReportsAndLossesAreTaken : Prop :=
  (∀ (s : State) (src : Source) (r : Report) (front back : List (Source × Raised)),
      s.ru.inbox = front ++ (src, .report r) :: back → (∀ x ∈ front, x.1 = src → x.2.waitsForRU = false) →
      let rest := front ++ back
      (s.ru.reporting = false →
          exec (.reportRaised src) s = .next { s with ru := { s.ru with inbox := rest } })
        ∧ (s.ru.reporting = true → 32 ≤ s.ru.queue.length →
          exec (.reportRaised src) s = .next { s with ru := { s.ru with inbox := rest, lost := satInc s.ru.lost } })
        ∧ (s.ru.reporting = true → s.ru.queue.length < 32 →
          exec (.reportRaised src) s = .next { s with
            ru := { s.ru with
              inbox := rest, queue := s.ru.queue ++ [⟨s.ru.nextSeq, r⟩], nextSeq := nextNumber s.ru.nextSeq }
            hl := { s.hl with incoming := s.hl.incoming ++ [{ kind := .report s.ru.nextSeq, tag := 0,
                                                              payload := le16 s.ru.nextSeq ++ r.bytes }] } }))
    ∧ (∀ (s : State) (src : Source) (cause : LossCause) (n : LineNo) (waits : LossWait)
      (front back : List (Source × Raised)),
      s.ru.inbox = front ++ (src, .loss cause n waits) :: back → waits ≠ .lp →
      (∀ x ∈ front, x.1 = src → x.2.waitsForRU = false) →
      let rest := front ++ (if waits = .both then [(src, .loss cause n .lp)] else []) ++ back
      let counted := s.ru.losses.count cause
      counted.of cause = satInc (s.ru.losses.of cause)
        ∧ (∀ other, other ≠ cause → counted.of other = s.ru.losses.of other)
        ∧ (s.ru.reporting = false ∨ s.ru.lossPending = true →
          exec (.lossHanded src) s = .next { s with ru := { s.ru with inbox := rest, losses := counted } })
        ∧ (s.ru.reporting = true → s.ru.lossPending = false → 32 ≤ s.ru.queue.length →
          exec (.lossHanded src) s
            = .next { s with ru := { s.ru with inbox := rest, losses := counted, lost := satInc s.ru.lost } })
        ∧ (s.ru.reporting = true → s.ru.lossPending = false → s.ru.queue.length < 32 →
          exec (.lossHanded src) s = .next { s with
            ru := { s.ru with
              inbox := rest, losses := counted, lossPending := true
              queue := s.ru.queue ++ [⟨s.ru.nextSeq, .loss counted⟩], nextSeq := nextNumber s.ru.nextSeq }
            hl := { s.hl with incoming := s.hl.incoming ++ [{ kind := .report s.ru.nextSeq, tag := 0,
                                                              payload := le16 s.ru.nextSeq ++ 7 :: counted.bytes }] } }))
    ∧ ∀ (s : State) (src : Source) (cause : LossCause) (n : LineNo) (waits : LossWait)
      (front back : List (Source × Raised)),
      s.ru.inbox = front ++ (src, .loss cause n waits) :: back → waits ≠ .ru →
      (∀ x ∈ front, x.1 = src → x.2.waitsForLP n = false) →
      exec (.lossHanded src (.lp n)) s = .next { s with
        ports := s.ports.set n { s.port n with losses := (s.port n).losses.count cause }
        ru := { s.ru with
          inbox := front ++ (if waits = .both then [(src, .loss cause n .ru)] else []) ++ back } }

/-- ACK_REPORTS removes the reports up to the one it names and their waiting copies, ends the LOSS report among them, and
is answered with the numbers removed and left and the oldest sequence left; a REPORTS_LOST report with the lost-report
count follows where that is not 0. A number not queued is refused UNKNOWN_SEQUENCE, and 0 BAD_PARAM (R163, R164, R168).
The copies removed are those that wait unbegun in the outgoing list and those that HL has yet to take (R160).
RESEND_REPORTS hands every queued report to HL again, before its own reply, and changes no report (R165); HL drops the
copies of those that wait already, by `Obligations.DeviceResetAndTheOutgoingList`. -/
def Obligations.AckRemovesAndResendRepeats : Prop :=
  ∀ (s : State) (tag : Byte),
    (Ready s tag → exec (.ackReports tag 0) s = .next (s.replied tag 0x40 .badParam [1]))
      ∧ (∀ k : Half, k ≠ 0 → ReadyAt s tag .ru → (∀ r ∈ s.ru.queue, r.sequence ≠ k) →
        exec (.ackReports tag k) s = .next (s.answered tag 0x40 .unknownSequence []))
      ∧ (∀ (front back : List QueuedReport) (r : QueuedReport), s.ru.queue = front ++ r :: back → r.sequence ≠ 0 →
        (∀ x ∈ front, x.sequence ≠ r.sequence) → ReadyAt s tag .ru →
        let reply := replyPacket tag 0x40 .ok
          ([byteOf (front.length + 1), byteOf back.length] ++ le16 (sequenceOf back.head?))
        let pending := s.ru.lossPending && !(front ++ [r]).any QueuedReport.isLoss
        let handing (packets : List OutPacket) : HostLink := { (s.holding tag 0x40).hl with
          waiting := s.hl.waiting.filter (fun p => !p.copies (front ++ [r]))
          incoming := s.hl.incoming.filter (fun p => !p.copies (front ++ [r])) ++ packets }
        exec (.ackReports tag r.sequence) s = .next (
          if s.ru.lost = 0 then
            { s with ru := { s.ru with queue := back, lossPending := pending }, hl := handing [reply] }
          else { s with
            ru := { s.ru with
              queue := back ++ [⟨s.ru.nextSeq, .reportsLost s.ru.lost⟩], lossPending := pending, lost := 0
              nextSeq := nextNumber s.ru.nextSeq }
            hl := handing [reply, { kind := .report s.ru.nextSeq, tag := 0,
                                    payload := le16 s.ru.nextSeq ++ 8 :: le16 s.ru.lost }] }))
      ∧ (ReadyAt s tag .ru →
        exec (.resendReports tag) s = .next { s.holding tag 0x41 with hl := { (s.holding tag 0x41).hl with
          incoming := s.hl.incoming
            ++ s.ru.queue.map (fun r =>
              { kind := .report r.sequence, tag := 0, payload := le16 r.sequence ++ r.report.bytes })
            ++ [replyPacket tag 0x41 .ok (byteOf s.ru.queue.length :: le16 (sequenceOf s.ru.queue.head?)
                ++ le16 (sequenceOf s.ru.queue.getLast?))] } })

/-- STATS returns the items of its selector as they stood, after the selector and its operand, and with clear set then
makes the selector's counters 0, and nothing else: not the reports, the use counter, the stamps, or any list; the
least-free mark becomes the free count (R170, R171). For LOSSES RU reads its own counters and replies at once. For the
other selectors the STATS keeps its slot, and the block that keeps the counters is read and cleared in a happening of its
own, for LINE the Capture Unit and then the Line Port; the reply follows the last read. That the command's operand says
who takes it is the model's choice (log 7). -/
def Obligations.StatsReadsAndClears : Prop :=
  (∀ (s : State) (tag : Byte) (x : Selector) (clear : Bool), ReadyAt s tag .ru →
      let c : Instr := .stats tag x.code x.operand (flagByte clear)
      let handed (first : BlockRead) : State := { s.holding tag 0x42 with
        ru := { s.ru with reads := s.ru.reads ++ [{ tag := tag, clear := clear, next := first }] } }
      match x with
      | .line n => exec c s = .next (handed (.unit n))
      | .queue q => exec c s = .next (handed (.queue q))
      | .routes => exec c s = .next (handed .routes)
      | .pool => exec c s = .next (handed .pool)
      | .losses =>
        exec c s = .next (
          (if clear then { s with ru := { s.ru with losses := {} } } else s : State).answered tag 0x42 .ok
            ([2, 0] ++ s.ru.losses.bytes ++ le16 s.ru.lost ++ [flagByte s.ru.lossPending, byteOf s.ru.queue.length]
              ++ le16 s.ru.nextSeq)))
    ∧ ∀ (s : State) (r : StatsRead) (selector operand clear : Byte) (front back : List StatsRead),
      s.ru.reads = front ++ r :: back → (∀ x ∈ front ++ back, x.tag ≠ r.tag) →
      let c : Instr := .stats r.tag selector operand clear .read
      let cleared : State :=
        if r.clear then
          match r.next with
          | .unit n => { s with units := s.units.set n { s.unit n with counters := {} } }
          | .port n _ => { s with ports := s.ports.set n { s.port n with rxCounters := {}, txCounters := {}, losses := {} } }
          | .queue q => { s with queues := s.queues.set q { s.queue q with counters := {} } }
          | .routes => { s with re := { s.re with
              table := {}, resolution := {}
              routes := mapVector (Option.map (fun e => { e with hits := 0 })) s.re.routes } }
          | .pool => { s with pool := { s.pool with counters := { leastFree := s.freeSlots } } }
        else s
      let replies (items : List Byte) : Prop :=
        exec c s = .next { cleared with
          ru := { s.ru with reads := front ++ back }
          hl := { s.hl with incoming := s.hl.incoming ++ [replyPacket r.tag 0x42 .ok items] } }
      match r.next with
      | .unit n =>
        exec c s = .next { cleared with ru := { s.ru with
          reads := front ++ { r with next := .port n (s.unit n).counters } :: back } }
      | .port n capture =>
        replies ([0, placeByte n] ++ capture.bytes ++ (s.port n).rxCounters.bytes ++ (s.port n).txCounters.bytes
          ++ (s.port n).losses.bytes)
      | .queue q =>
        replies ([1, placeByte q] ++ (s.queue q).counters.bytes
          ++ [byteOf (s.queue q).waiting.length, byteOf (s.queue q).lent.length])
      | .routes =>
        replies ([3, 0] ++ s.re.table.bytes ++ s.re.resolution.bytes
          ++ [byteOf (s.countRoutes Option.isNone), byteOf (s.countRoutes (entryIn .active)),
              byteOf (s.countRoutes (entryIn .suspended)), byteOf (s.countRoutes (fun e => e.any RouteEntry.pinned))]
          ++ le48 s.re.useCounter ++ [byteOf s.re.parks.length])
      | .pool => replies ([4, 0] ++ s.pool.counters.bytes ++ [byteOf s.freeSlots])

/-! ### Invariants that every step keeps -/

/-- No step stops: the spec names no condition that stops the part, and every command has a next state in every state. That a
command which cannot arise in a state changes nothing there (log 2), and that commands no packet can carry are taken like the
others (log 21), are the model's choices. -/
def Obligations.NoStepStops : Prop := (∀ (c : Instr) (s : State), ∃ t, exec c s = .next t) ∧ ∀ s : State, Safe s

/-- The state after reset is sound, and so is every state a device reset gives: at power-up, at the RESET pin, and at the end
of the RESET reply (R158, R159). -/
def Obligations.ResetIsSound : Prop :=
  State.reset.Sound ∧ ∀ (s t : State) (straps : Straps),
    exec (.powerUp straps) s = .next t ∨ exec (.resetPin straps) s = .next t
      ∨ (∃ p, s.hl.sending = some p ∧ p.kind = .resetReply ∧ exec (.packetSent straps) s = .next t) → t.Sound

/-- Every step keeps the Host Link sound: at most four requests hold slots, under distinct tags from 1; at most one
notice, one slot-free refusal and one copy of each report wait (R146, R150, R151, R158, R160). A request holds a slot just
as long as it waits: for its block, for what its block waits for, or for HL to take its reply (R151). How requests and
packets under way between HL and the blocks are held is the model's choice (logs 1 and 11). -/
def Obligations.StepKeepsTheHostLinkSound : Prop :=
  ∀ s t : State, s.Sound → step s = .next t → t.hl.Sound ∧ t.SlotsSound

/-- Every step keeps the session and the Report Unit sound: reports are queued only while reporting, at most 32 of them, with
consecutive sequence numbers, and at most one LOSS report, which the pending flag tells; a report copy that waits to be sent
is one of a queued report (R155, R160, R161, R164, R166, R168). A block that has taken the
session end has taken every request handed to it before (R153). How a session open, a session end and the reads of a STATS
under way are held is the model's choice (log 7). -/
def Obligations.StepKeepsReportsConsecutive : Prop :=
  ∀ s t : State, s.Sound → step s = .next t → t.SessionSound

/-- Every step keeps each line sound and its unit in agreement with it: each state of a unit, receiver and transmitter has
just what belongs to it, a quiet timer runs in HUNT_QUIET only, and transmit numbers in use are distinct (R4, R9, R113 to
R116, R128). Two parts of `LinePort.Sound` are the model's and no rule says them: that a break is watched for in WAIT_MARK
and IDLE only (breakWatch, log 13, DEDUCED), and that the level is space in a break (level, log 9, DESIGN CHOICE). A
third, that the pre-quiet timer runs in WAIT_QUIET but for a break that holds it (R115), takes a free value for a break
that was not handed on, where R115 and R131 disagree (log 16, DESIGN CHOICE; the field breakDeaf is log 9). -/
def Obligations.StepKeepsLinesSound : Prop :=
  ∀ s t : State, s.Sound → step s = .next t → t.LinesSound

/-- Every step keeps the pool sound: every slot in use has exactly one holder and the state of that holder, and no FREE
slot has one, so that no slot is leaked or held twice (R32 to R34). That a freed slot is cleared is the model's choice
(log 24). -/
def Obligations.StepKeepsEverySlotWithOneHolder : Prop :=
  ∀ s t : State, s.Sound → step s = .next t → t.PoolSound

/-- Every step keeps lists and settings in range: at most 16 parked frames under distinct numbers, at most 64 frames in a
queue and 8 lent, notify armed only where set, no fetch held with frames waiting, and at most 32 slots charged to the host
(R35, R76, R80, R94 to R98, R102). Every running timer keeps its window of one unit (R1; how it is held is the model's
choice, log 4). -/
def Obligations.StepKeepsListsInRange : Prop :=
  ∀ s t : State, s.Sound → step s = .next t → t.RangesSound ∧ t.TimersSound

/-- Every step keeps one head in each group of parked frames: its oldest frame, and every other parked ORDER (R69, R81,
R86). -/
def Obligations.StepKeepsOneHeadInEachGroup : Prop :=
  ∀ s t : State, s.Sound → step s = .next t → t.GroupsSound

/-- Every step keeps the reasons of parked frames true: a frame parked MISS matches no in-use entry, and one parked SUSPENDED
matches the entry it names, which is SUSPENDED (R82). -/
def Obligations.StepKeepsParkReasonsTrue : Prop :=
  ∀ s t : State, s.Sound → step s = .next t → t.ReasonsSound

/-- No two in-use entries match one key of one width in one domain: it is so after reset, every step keeps it so, and a
key of a width is then matched by at most one entry in a domain (R49). -/
def Obligations.StepKeepsRoutesDisjoint : Prop :=
  State.reset.RoutesSound
    ∧ (∀ s t : State, s.RoutesSound → step s = .next t → t.RoutesSound)
    ∧ ∀ (s : State) (key : Half) (w : KeyWidth) (d : Domain) (i j : RouteNo), s.RoutesSound →
      s.servesAt i key w d = true → s.servesAt j key w d = true → i = j
end

