-- ==== Sys2Proof/Laws/State.lean ====
section
/-! SUPPORT. What each named update of the state leaves as it was and what it sets: one lemma per field per update, so that
no proof unfolds an update. -/

-- One theorem at a time: hundreds of small ones at once start more threads than the memory limit holds.
set_option Elab.async false

namespace Sys2Proof.Machine

variable (s : State)

/-! ### modUnit -/

@[simp] theorem State.modUnit_pending (n : LineNo) (f : CaptureUnit → CaptureUnit) : (s.modUnit n f).pending = s.pending := rfl
@[simp] theorem State.modUnit_time (n : LineNo) (f : CaptureUnit → CaptureUnit) : (s.modUnit n f).time = s.time := rfl
@[simp] theorem State.modUnit_pool (n : LineNo) (f : CaptureUnit → CaptureUnit) : (s.modUnit n f).pool = s.pool := rfl
@[simp] theorem State.modUnit_re (n : LineNo) (f : CaptureUnit → CaptureUnit) : (s.modUnit n f).re = s.re := rfl
@[simp] theorem State.modUnit_queues (n : LineNo) (f : CaptureUnit → CaptureUnit) : (s.modUnit n f).queues = s.queues := rfl
@[simp] theorem State.modUnit_ports (n : LineNo) (f : CaptureUnit → CaptureUnit) : (s.modUnit n f).ports = s.ports := rfl
@[simp] theorem State.modUnit_hl (n : LineNo) (f : CaptureUnit → CaptureUnit) : (s.modUnit n f).hl = s.hl := rfl
@[simp] theorem State.modUnit_ru (n : LineNo) (f : CaptureUnit → CaptureUnit) : (s.modUnit n f).ru = s.ru := rfl
@[simp] theorem State.modUnit_freeCount (n : LineNo) (f : CaptureUnit → CaptureUnit) : (s.modUnit n f).freeCount = s.freeCount := rfl
@[simp] theorem State.modUnit_slot (n : LineNo) (f : CaptureUnit → CaptureUnit) (m : SlotNo) : (s.modUnit n f).slot m = s.slot m := rfl
@[simp] theorem State.modUnit_route (n : LineNo) (f : CaptureUnit → CaptureUnit) (m : RouteNo) : (s.modUnit n f).route m = s.route m := rfl
@[simp] theorem State.modUnit_queue (n : LineNo) (f : CaptureUnit → CaptureUnit) (m : QueueNo) : (s.modUnit n f).queue m = s.queue m := rfl
@[simp] theorem State.modUnit_port (n : LineNo) (f : CaptureUnit → CaptureUnit) (m : LineNo) : (s.modUnit n f).port m = s.port m := rfl

/-! ### modPort -/

@[simp] theorem State.modPort_pending (n : LineNo) (f : LinePort → LinePort) : (s.modPort n f).pending = s.pending := rfl
@[simp] theorem State.modPort_time (n : LineNo) (f : LinePort → LinePort) : (s.modPort n f).time = s.time := rfl
@[simp] theorem State.modPort_units (n : LineNo) (f : LinePort → LinePort) : (s.modPort n f).units = s.units := rfl
@[simp] theorem State.modPort_pool (n : LineNo) (f : LinePort → LinePort) : (s.modPort n f).pool = s.pool := rfl
@[simp] theorem State.modPort_re (n : LineNo) (f : LinePort → LinePort) : (s.modPort n f).re = s.re := rfl
@[simp] theorem State.modPort_queues (n : LineNo) (f : LinePort → LinePort) : (s.modPort n f).queues = s.queues := rfl
@[simp] theorem State.modPort_hl (n : LineNo) (f : LinePort → LinePort) : (s.modPort n f).hl = s.hl := rfl
@[simp] theorem State.modPort_ru (n : LineNo) (f : LinePort → LinePort) : (s.modPort n f).ru = s.ru := rfl
@[simp] theorem State.modPort_freeCount (n : LineNo) (f : LinePort → LinePort) : (s.modPort n f).freeCount = s.freeCount := rfl
@[simp] theorem State.modPort_unit (n : LineNo) (f : LinePort → LinePort) (m : LineNo) : (s.modPort n f).unit m = s.unit m := rfl
@[simp] theorem State.modPort_slot (n : LineNo) (f : LinePort → LinePort) (m : SlotNo) : (s.modPort n f).slot m = s.slot m := rfl
@[simp] theorem State.modPort_route (n : LineNo) (f : LinePort → LinePort) (m : RouteNo) : (s.modPort n f).route m = s.route m := rfl
@[simp] theorem State.modPort_queue (n : LineNo) (f : LinePort → LinePort) (m : QueueNo) : (s.modPort n f).queue m = s.queue m := rfl

/-! ### modQueue -/

@[simp] theorem State.modQueue_pending (q : QueueNo) (f : DeliveryQueue → DeliveryQueue) : (s.modQueue q f).pending = s.pending := rfl
@[simp] theorem State.modQueue_time (q : QueueNo) (f : DeliveryQueue → DeliveryQueue) : (s.modQueue q f).time = s.time := rfl
@[simp] theorem State.modQueue_units (q : QueueNo) (f : DeliveryQueue → DeliveryQueue) : (s.modQueue q f).units = s.units := rfl
@[simp] theorem State.modQueue_pool (q : QueueNo) (f : DeliveryQueue → DeliveryQueue) : (s.modQueue q f).pool = s.pool := rfl
@[simp] theorem State.modQueue_re (q : QueueNo) (f : DeliveryQueue → DeliveryQueue) : (s.modQueue q f).re = s.re := rfl
@[simp] theorem State.modQueue_ports (q : QueueNo) (f : DeliveryQueue → DeliveryQueue) : (s.modQueue q f).ports = s.ports := rfl
@[simp] theorem State.modQueue_hl (q : QueueNo) (f : DeliveryQueue → DeliveryQueue) : (s.modQueue q f).hl = s.hl := rfl
@[simp] theorem State.modQueue_ru (q : QueueNo) (f : DeliveryQueue → DeliveryQueue) : (s.modQueue q f).ru = s.ru := rfl
@[simp] theorem State.modQueue_freeCount (q : QueueNo) (f : DeliveryQueue → DeliveryQueue) : (s.modQueue q f).freeCount = s.freeCount := rfl
@[simp] theorem State.modQueue_unit (q : QueueNo) (f : DeliveryQueue → DeliveryQueue) (m : LineNo) : (s.modQueue q f).unit m = s.unit m := rfl
@[simp] theorem State.modQueue_slot (q : QueueNo) (f : DeliveryQueue → DeliveryQueue) (m : SlotNo) : (s.modQueue q f).slot m = s.slot m := rfl
@[simp] theorem State.modQueue_route (q : QueueNo) (f : DeliveryQueue → DeliveryQueue) (m : RouteNo) : (s.modQueue q f).route m = s.route m := rfl
@[simp] theorem State.modQueue_port (q : QueueNo) (f : DeliveryQueue → DeliveryQueue) (m : LineNo) : (s.modQueue q f).port m = s.port m := rfl

/-! ### modSlot -/

@[simp] theorem State.modSlot_pending (i : SlotNo) (f : Slot → Slot) : (s.modSlot i f).pending = s.pending := rfl
@[simp] theorem State.modSlot_time (i : SlotNo) (f : Slot → Slot) : (s.modSlot i f).time = s.time := rfl
@[simp] theorem State.modSlot_units (i : SlotNo) (f : Slot → Slot) : (s.modSlot i f).units = s.units := rfl
@[simp] theorem State.modSlot_re (i : SlotNo) (f : Slot → Slot) : (s.modSlot i f).re = s.re := rfl
@[simp] theorem State.modSlot_queues (i : SlotNo) (f : Slot → Slot) : (s.modSlot i f).queues = s.queues := rfl
@[simp] theorem State.modSlot_ports (i : SlotNo) (f : Slot → Slot) : (s.modSlot i f).ports = s.ports := rfl
@[simp] theorem State.modSlot_hl (i : SlotNo) (f : Slot → Slot) : (s.modSlot i f).hl = s.hl := rfl
@[simp] theorem State.modSlot_ru (i : SlotNo) (f : Slot → Slot) : (s.modSlot i f).ru = s.ru := rfl
@[simp] theorem State.modSlot_freeCount (i : SlotNo) (f : Slot → Slot) : (s.modSlot i f).freeCount = s.freeCount := rfl
@[simp] theorem State.modSlot_unit (i : SlotNo) (f : Slot → Slot) (m : LineNo) : (s.modSlot i f).unit m = s.unit m := rfl
@[simp] theorem State.modSlot_route (i : SlotNo) (f : Slot → Slot) (m : RouteNo) : (s.modSlot i f).route m = s.route m := rfl
@[simp] theorem State.modSlot_queue (i : SlotNo) (f : Slot → Slot) (m : QueueNo) : (s.modSlot i f).queue m = s.queue m := rfl
@[simp] theorem State.modSlot_port (i : SlotNo) (f : Slot → Slot) (m : LineNo) : (s.modSlot i f).port m = s.port m := rfl

/-! ### slotTo -/

@[simp] theorem State.slotTo_pending (i : SlotNo) (st : SlotState) : (s.slotTo i st).pending = s.pending := rfl
@[simp] theorem State.slotTo_time (i : SlotNo) (st : SlotState) : (s.slotTo i st).time = s.time := rfl
@[simp] theorem State.slotTo_units (i : SlotNo) (st : SlotState) : (s.slotTo i st).units = s.units := rfl
@[simp] theorem State.slotTo_re (i : SlotNo) (st : SlotState) : (s.slotTo i st).re = s.re := rfl
@[simp] theorem State.slotTo_queues (i : SlotNo) (st : SlotState) : (s.slotTo i st).queues = s.queues := rfl
@[simp] theorem State.slotTo_ports (i : SlotNo) (st : SlotState) : (s.slotTo i st).ports = s.ports := rfl
@[simp] theorem State.slotTo_hl (i : SlotNo) (st : SlotState) : (s.slotTo i st).hl = s.hl := rfl
@[simp] theorem State.slotTo_ru (i : SlotNo) (st : SlotState) : (s.slotTo i st).ru = s.ru := rfl
@[simp] theorem State.slotTo_freeCount (i : SlotNo) (st : SlotState) : (s.slotTo i st).freeCount = s.freeCount := rfl
@[simp] theorem State.slotTo_unit (i : SlotNo) (st : SlotState) (m : LineNo) : (s.slotTo i st).unit m = s.unit m := rfl
@[simp] theorem State.slotTo_route (i : SlotNo) (st : SlotState) (m : RouteNo) : (s.slotTo i st).route m = s.route m := rfl
@[simp] theorem State.slotTo_queue (i : SlotNo) (st : SlotState) (m : QueueNo) : (s.slotTo i st).queue m = s.queue m := rfl
@[simp] theorem State.slotTo_port (i : SlotNo) (st : SlotState) (m : LineNo) : (s.slotTo i st).port m = s.port m := rfl

/-! ### modRecord -/

@[simp] theorem State.modRecord_pending (i : SlotNo) (f : FrameRecord → FrameRecord) : (s.modRecord i f).pending = s.pending := rfl
@[simp] theorem State.modRecord_time (i : SlotNo) (f : FrameRecord → FrameRecord) : (s.modRecord i f).time = s.time := rfl
@[simp] theorem State.modRecord_units (i : SlotNo) (f : FrameRecord → FrameRecord) : (s.modRecord i f).units = s.units := rfl
@[simp] theorem State.modRecord_re (i : SlotNo) (f : FrameRecord → FrameRecord) : (s.modRecord i f).re = s.re := rfl
@[simp] theorem State.modRecord_queues (i : SlotNo) (f : FrameRecord → FrameRecord) : (s.modRecord i f).queues = s.queues := rfl
@[simp] theorem State.modRecord_ports (i : SlotNo) (f : FrameRecord → FrameRecord) : (s.modRecord i f).ports = s.ports := rfl
@[simp] theorem State.modRecord_hl (i : SlotNo) (f : FrameRecord → FrameRecord) : (s.modRecord i f).hl = s.hl := rfl
@[simp] theorem State.modRecord_ru (i : SlotNo) (f : FrameRecord → FrameRecord) : (s.modRecord i f).ru = s.ru := rfl
@[simp] theorem State.modRecord_freeCount (i : SlotNo) (f : FrameRecord → FrameRecord) : (s.modRecord i f).freeCount = s.freeCount := rfl
@[simp] theorem State.modRecord_unit (i : SlotNo) (f : FrameRecord → FrameRecord) (m : LineNo) : (s.modRecord i f).unit m = s.unit m := rfl
@[simp] theorem State.modRecord_route (i : SlotNo) (f : FrameRecord → FrameRecord) (m : RouteNo) : (s.modRecord i f).route m = s.route m := rfl
@[simp] theorem State.modRecord_queue (i : SlotNo) (f : FrameRecord → FrameRecord) (m : QueueNo) : (s.modRecord i f).queue m = s.queue m := rfl
@[simp] theorem State.modRecord_port (i : SlotNo) (f : FrameRecord → FrameRecord) (m : LineNo) : (s.modRecord i f).port m = s.port m := rfl

/-! ### freeSlot -/

@[simp] theorem State.freeSlot_pending (i : SlotNo) : (s.freeSlot i).pending = s.pending := rfl
@[simp] theorem State.freeSlot_time (i : SlotNo) : (s.freeSlot i).time = s.time := rfl
@[simp] theorem State.freeSlot_units (i : SlotNo) : (s.freeSlot i).units = s.units := rfl
@[simp] theorem State.freeSlot_re (i : SlotNo) : (s.freeSlot i).re = s.re := rfl
@[simp] theorem State.freeSlot_queues (i : SlotNo) : (s.freeSlot i).queues = s.queues := rfl
@[simp] theorem State.freeSlot_ports (i : SlotNo) : (s.freeSlot i).ports = s.ports := rfl
@[simp] theorem State.freeSlot_hl (i : SlotNo) : (s.freeSlot i).hl = s.hl := rfl
@[simp] theorem State.freeSlot_ru (i : SlotNo) : (s.freeSlot i).ru = s.ru := rfl
@[simp] theorem State.freeSlot_freeCount (i : SlotNo) : (s.freeSlot i).freeCount = s.freeCount := rfl
@[simp] theorem State.freeSlot_unit (i : SlotNo) (m : LineNo) : (s.freeSlot i).unit m = s.unit m := rfl
@[simp] theorem State.freeSlot_route (i : SlotNo) (m : RouteNo) : (s.freeSlot i).route m = s.route m := rfl
@[simp] theorem State.freeSlot_queue (i : SlotNo) (m : QueueNo) : (s.freeSlot i).queue m = s.queue m := rfl
@[simp] theorem State.freeSlot_port (i : SlotNo) (m : LineNo) : (s.freeSlot i).port m = s.port m := rfl

/-! ### setRoute -/

@[simp] theorem State.setRoute_pending (i : RouteNo) (e : Option RouteEntry) : (s.setRoute i e).pending = s.pending := rfl
@[simp] theorem State.setRoute_time (i : RouteNo) (e : Option RouteEntry) : (s.setRoute i e).time = s.time := rfl
@[simp] theorem State.setRoute_units (i : RouteNo) (e : Option RouteEntry) : (s.setRoute i e).units = s.units := rfl
@[simp] theorem State.setRoute_pool (i : RouteNo) (e : Option RouteEntry) : (s.setRoute i e).pool = s.pool := rfl
@[simp] theorem State.setRoute_queues (i : RouteNo) (e : Option RouteEntry) : (s.setRoute i e).queues = s.queues := rfl
@[simp] theorem State.setRoute_ports (i : RouteNo) (e : Option RouteEntry) : (s.setRoute i e).ports = s.ports := rfl
@[simp] theorem State.setRoute_hl (i : RouteNo) (e : Option RouteEntry) : (s.setRoute i e).hl = s.hl := rfl
@[simp] theorem State.setRoute_ru (i : RouteNo) (e : Option RouteEntry) : (s.setRoute i e).ru = s.ru := rfl
@[simp] theorem State.setRoute_freeCount (i : RouteNo) (e : Option RouteEntry) : (s.setRoute i e).freeCount = s.freeCount := rfl
@[simp] theorem State.setRoute_unit (i : RouteNo) (e : Option RouteEntry) (m : LineNo) : (s.setRoute i e).unit m = s.unit m := rfl
@[simp] theorem State.setRoute_slot (i : RouteNo) (e : Option RouteEntry) (m : SlotNo) : (s.setRoute i e).slot m = s.slot m := rfl
@[simp] theorem State.setRoute_queue (i : RouteNo) (e : Option RouteEntry) (m : QueueNo) : (s.setRoute i e).queue m = s.queue m := rfl
@[simp] theorem State.setRoute_port (i : RouteNo) (e : Option RouteEntry) (m : LineNo) : (s.setRoute i e).port m = s.port m := rfl

/-! ### modResolution -/

@[simp] theorem State.modResolution_pending (f : ResolutionCounters → ResolutionCounters) : (s.modResolution f).pending = s.pending := rfl
@[simp] theorem State.modResolution_time (f : ResolutionCounters → ResolutionCounters) : (s.modResolution f).time = s.time := rfl
@[simp] theorem State.modResolution_units (f : ResolutionCounters → ResolutionCounters) : (s.modResolution f).units = s.units := rfl
@[simp] theorem State.modResolution_pool (f : ResolutionCounters → ResolutionCounters) : (s.modResolution f).pool = s.pool := rfl
@[simp] theorem State.modResolution_queues (f : ResolutionCounters → ResolutionCounters) : (s.modResolution f).queues = s.queues := rfl
@[simp] theorem State.modResolution_ports (f : ResolutionCounters → ResolutionCounters) : (s.modResolution f).ports = s.ports := rfl
@[simp] theorem State.modResolution_hl (f : ResolutionCounters → ResolutionCounters) : (s.modResolution f).hl = s.hl := rfl
@[simp] theorem State.modResolution_ru (f : ResolutionCounters → ResolutionCounters) : (s.modResolution f).ru = s.ru := rfl
@[simp] theorem State.modResolution_freeCount (f : ResolutionCounters → ResolutionCounters) : (s.modResolution f).freeCount = s.freeCount := rfl
@[simp] theorem State.modResolution_unit (f : ResolutionCounters → ResolutionCounters) (m : LineNo) : (s.modResolution f).unit m = s.unit m := rfl
@[simp] theorem State.modResolution_slot (f : ResolutionCounters → ResolutionCounters) (m : SlotNo) : (s.modResolution f).slot m = s.slot m := rfl
@[simp] theorem State.modResolution_queue (f : ResolutionCounters → ResolutionCounters) (m : QueueNo) : (s.modResolution f).queue m = s.queue m := rfl
@[simp] theorem State.modResolution_port (f : ResolutionCounters → ResolutionCounters) (m : LineNo) : (s.modResolution f).port m = s.port m := rfl

/-! ### modTable -/

@[simp] theorem State.modTable_pending (f : TableCounters → TableCounters) : (s.modTable f).pending = s.pending := rfl
@[simp] theorem State.modTable_time (f : TableCounters → TableCounters) : (s.modTable f).time = s.time := rfl
@[simp] theorem State.modTable_units (f : TableCounters → TableCounters) : (s.modTable f).units = s.units := rfl
@[simp] theorem State.modTable_pool (f : TableCounters → TableCounters) : (s.modTable f).pool = s.pool := rfl
@[simp] theorem State.modTable_queues (f : TableCounters → TableCounters) : (s.modTable f).queues = s.queues := rfl
@[simp] theorem State.modTable_ports (f : TableCounters → TableCounters) : (s.modTable f).ports = s.ports := rfl
@[simp] theorem State.modTable_hl (f : TableCounters → TableCounters) : (s.modTable f).hl = s.hl := rfl
@[simp] theorem State.modTable_ru (f : TableCounters → TableCounters) : (s.modTable f).ru = s.ru := rfl
@[simp] theorem State.modTable_freeCount (f : TableCounters → TableCounters) : (s.modTable f).freeCount = s.freeCount := rfl
@[simp] theorem State.modTable_unit (f : TableCounters → TableCounters) (m : LineNo) : (s.modTable f).unit m = s.unit m := rfl
@[simp] theorem State.modTable_slot (f : TableCounters → TableCounters) (m : SlotNo) : (s.modTable f).slot m = s.slot m := rfl
@[simp] theorem State.modTable_queue (f : TableCounters → TableCounters) (m : QueueNo) : (s.modTable f).queue m = s.queue m := rfl
@[simp] theorem State.modTable_port (f : TableCounters → TableCounters) (m : LineNo) : (s.modTable f).port m = s.port m := rfl

/-! ### raise -/

@[simp] theorem State.raise_pending (src : Source) (r : Report) : (s.raise src r).pending = s.pending := rfl
@[simp] theorem State.raise_time (src : Source) (r : Report) : (s.raise src r).time = s.time := rfl
@[simp] theorem State.raise_units (src : Source) (r : Report) : (s.raise src r).units = s.units := rfl
@[simp] theorem State.raise_pool (src : Source) (r : Report) : (s.raise src r).pool = s.pool := rfl
@[simp] theorem State.raise_re (src : Source) (r : Report) : (s.raise src r).re = s.re := rfl
@[simp] theorem State.raise_queues (src : Source) (r : Report) : (s.raise src r).queues = s.queues := rfl
@[simp] theorem State.raise_ports (src : Source) (r : Report) : (s.raise src r).ports = s.ports := rfl
@[simp] theorem State.raise_hl (src : Source) (r : Report) : (s.raise src r).hl = s.hl := rfl
@[simp] theorem State.raise_freeCount (src : Source) (r : Report) : (s.raise src r).freeCount = s.freeCount := rfl
@[simp] theorem State.raise_unit (src : Source) (r : Report) (m : LineNo) : (s.raise src r).unit m = s.unit m := rfl
@[simp] theorem State.raise_slot (src : Source) (r : Report) (m : SlotNo) : (s.raise src r).slot m = s.slot m := rfl
@[simp] theorem State.raise_route (src : Source) (r : Report) (m : RouteNo) : (s.raise src r).route m = s.route m := rfl
@[simp] theorem State.raise_queue (src : Source) (r : Report) (m : QueueNo) : (s.raise src r).queue m = s.queue m := rfl
@[simp] theorem State.raise_port (src : Source) (r : Report) (m : LineNo) : (s.raise src r).port m = s.port m := rfl

/-! ### lose -/

@[simp] theorem State.lose_pending (src : Source) (cause : LossCause) (line : LineNo) : (s.lose src cause line).pending = s.pending := rfl
@[simp] theorem State.lose_time (src : Source) (cause : LossCause) (line : LineNo) : (s.lose src cause line).time = s.time := rfl
@[simp] theorem State.lose_units (src : Source) (cause : LossCause) (line : LineNo) : (s.lose src cause line).units = s.units := rfl
@[simp] theorem State.lose_pool (src : Source) (cause : LossCause) (line : LineNo) : (s.lose src cause line).pool = s.pool := rfl
@[simp] theorem State.lose_re (src : Source) (cause : LossCause) (line : LineNo) : (s.lose src cause line).re = s.re := rfl
@[simp] theorem State.lose_queues (src : Source) (cause : LossCause) (line : LineNo) : (s.lose src cause line).queues = s.queues := rfl
@[simp] theorem State.lose_ports (src : Source) (cause : LossCause) (line : LineNo) : (s.lose src cause line).ports = s.ports := rfl
@[simp] theorem State.lose_hl (src : Source) (cause : LossCause) (line : LineNo) : (s.lose src cause line).hl = s.hl := rfl
@[simp] theorem State.lose_freeCount (src : Source) (cause : LossCause) (line : LineNo) : (s.lose src cause line).freeCount = s.freeCount := rfl
@[simp] theorem State.lose_unit (src : Source) (cause : LossCause) (line : LineNo) (m : LineNo) : (s.lose src cause line).unit m = s.unit m := rfl
@[simp] theorem State.lose_slot (src : Source) (cause : LossCause) (line : LineNo) (m : SlotNo) : (s.lose src cause line).slot m = s.slot m := rfl
@[simp] theorem State.lose_route (src : Source) (cause : LossCause) (line : LineNo) (m : RouteNo) : (s.lose src cause line).route m = s.route m := rfl
@[simp] theorem State.lose_queue (src : Source) (cause : LossCause) (line : LineNo) (m : QueueNo) : (s.lose src cause line).queue m = s.queue m := rfl
@[simp] theorem State.lose_port (src : Source) (cause : LossCause) (line : LineNo) (m : LineNo) : (s.lose src cause line).port m = s.port m := rfl

/-! ### packetDone -/

@[simp] theorem State.packetDone_pending  : (s.packetDone).pending = s.pending := rfl
@[simp] theorem State.packetDone_time  : (s.packetDone).time = s.time := rfl
@[simp] theorem State.packetDone_units  : (s.packetDone).units = s.units := rfl
@[simp] theorem State.packetDone_pool  : (s.packetDone).pool = s.pool := rfl
@[simp] theorem State.packetDone_re  : (s.packetDone).re = s.re := rfl
@[simp] theorem State.packetDone_queues  : (s.packetDone).queues = s.queues := rfl
@[simp] theorem State.packetDone_ports  : (s.packetDone).ports = s.ports := rfl
@[simp] theorem State.packetDone_ru  : (s.packetDone).ru = s.ru := rfl
@[simp] theorem State.packetDone_freeCount  : (s.packetDone).freeCount = s.freeCount := rfl
@[simp] theorem State.packetDone_unit  (m : LineNo) : (s.packetDone).unit m = s.unit m := rfl
@[simp] theorem State.packetDone_slot  (m : SlotNo) : (s.packetDone).slot m = s.slot m := rfl
@[simp] theorem State.packetDone_route  (m : RouteNo) : (s.packetDone).route m = s.route m := rfl
@[simp] theorem State.packetDone_queue  (m : QueueNo) : (s.packetDone).queue m = s.queue m := rfl
@[simp] theorem State.packetDone_port  (m : LineNo) : (s.packetDone).port m = s.port m := rfl

/-! ### setEnding -/

@[simp] theorem State.setEnding_pending (e : SessionEnding) : (s.setEnding e).pending = s.pending := rfl
@[simp] theorem State.setEnding_time (e : SessionEnding) : (s.setEnding e).time = s.time := rfl
@[simp] theorem State.setEnding_units (e : SessionEnding) : (s.setEnding e).units = s.units := rfl
@[simp] theorem State.setEnding_pool (e : SessionEnding) : (s.setEnding e).pool = s.pool := rfl
@[simp] theorem State.setEnding_re (e : SessionEnding) : (s.setEnding e).re = s.re := rfl
@[simp] theorem State.setEnding_queues (e : SessionEnding) : (s.setEnding e).queues = s.queues := rfl
@[simp] theorem State.setEnding_ports (e : SessionEnding) : (s.setEnding e).ports = s.ports := rfl
@[simp] theorem State.setEnding_ru (e : SessionEnding) : (s.setEnding e).ru = s.ru := rfl
@[simp] theorem State.setEnding_freeCount (e : SessionEnding) : (s.setEnding e).freeCount = s.freeCount := rfl
@[simp] theorem State.setEnding_unit (e : SessionEnding) (m : LineNo) : (s.setEnding e).unit m = s.unit m := rfl
@[simp] theorem State.setEnding_slot (e : SessionEnding) (m : SlotNo) : (s.setEnding e).slot m = s.slot m := rfl
@[simp] theorem State.setEnding_route (e : SessionEnding) (m : RouteNo) : (s.setEnding e).route m = s.route m := rfl
@[simp] theorem State.setEnding_queue (e : SessionEnding) (m : QueueNo) : (s.setEnding e).queue m = s.queue m := rfl
@[simp] theorem State.setEnding_port (e : SessionEnding) (m : LineNo) : (s.setEnding e).port m = s.port m := rfl
@[simp] theorem State.setEnding_hl_rxSpace (e : SessionEnding) : (s.setEnding e).hl.rxSpace = s.hl.rxSpace := rfl
@[simp] theorem State.setEnding_hl_rx (e : SessionEnding) : (s.setEnding e).hl.rx = s.hl.rx := rfl
@[simp] theorem State.setEnding_hl_kept (e : SessionEnding) : (s.setEnding e).hl.kept = s.hl.kept := rfl
@[simp] theorem State.setEnding_hl_gapTimer (e : SessionEnding) : (s.setEnding e).hl.gapTimer = s.hl.gapTimer := rfl
@[simp] theorem State.setEnding_hl_slots (e : SessionEnding) : (s.setEnding e).hl.slots = s.hl.slots := rfl
@[simp] theorem State.setEnding_hl_handed (e : SessionEnding) : (s.setEnding e).hl.handed = s.hl.handed := rfl
@[simp] theorem State.setEnding_hl_incoming (e : SessionEnding) : (s.setEnding e).hl.incoming = s.hl.incoming := rfl
@[simp] theorem State.setEnding_hl_session (e : SessionEnding) : (s.setEnding e).hl.session = s.hl.session := rfl
@[simp] theorem State.setEnding_hl_opening (e : SessionEnding) : (s.setEnding e).hl.opening = s.hl.opening := rfl
@[simp] theorem State.setEnding_hl_opensWaiting (e : SessionEnding) : (s.setEnding e).hl.opensWaiting = s.hl.opensWaiting := rfl
@[simp] theorem State.setEnding_hl_sending (e : SessionEnding) : (s.setEnding e).hl.sending = s.hl.sending := rfl
@[simp] theorem State.setEnding_hl_waiting (e : SessionEnding) : (s.setEnding e).hl.waiting = s.hl.waiting := rfl
@[simp] theorem State.setEnding_hl_noticesUnsent (e : SessionEnding) : (s.setEnding e).hl.noticesUnsent = s.hl.noticesUnsent := rfl
@[simp] theorem State.setEnding_hl_ignoring (e : SessionEnding) : (s.setEnding e).hl.ignoring = s.hl.ignoring := rfl
@[simp] theorem State.setEnding_hl_cause (e : SessionEnding) : (s.setEnding e).hl.cause = s.hl.cause := rfl
@[simp] theorem State.setEnding_hl_counters (e : SessionEnding) : (s.setEnding e).hl.counters = s.hl.counters := rfl
@[simp] theorem State.setEnding_hl_ending (e : SessionEnding) : (s.setEnding e).hl.ending = some e := rfl

/-! ### Packets and requests between HL and the blocks -/

@[simp] theorem State.hand_pending (p : OutPacket) : (s.hand p).pending = s.pending := rfl
@[simp] theorem State.hand_time (p : OutPacket) : (s.hand p).time = s.time := rfl
@[simp] theorem State.hand_units (p : OutPacket) : (s.hand p).units = s.units := rfl
@[simp] theorem State.hand_pool (p : OutPacket) : (s.hand p).pool = s.pool := rfl
@[simp] theorem State.hand_re (p : OutPacket) : (s.hand p).re = s.re := rfl
@[simp] theorem State.hand_queues (p : OutPacket) : (s.hand p).queues = s.queues := rfl
@[simp] theorem State.hand_ports (p : OutPacket) : (s.hand p).ports = s.ports := rfl
@[simp] theorem State.hand_ru (p : OutPacket) : (s.hand p).ru = s.ru := rfl
@[simp] theorem State.hand_freeCount (p : OutPacket) : (s.hand p).freeCount = s.freeCount := rfl
@[simp] theorem State.hand_unit (p : OutPacket) (m : LineNo) : (s.hand p).unit m = s.unit m := rfl
@[simp] theorem State.hand_slot (p : OutPacket) (m : SlotNo) : (s.hand p).slot m = s.slot m := rfl
@[simp] theorem State.hand_route (p : OutPacket) (m : RouteNo) : (s.hand p).route m = s.route m := rfl
@[simp] theorem State.hand_queue (p : OutPacket) (m : QueueNo) : (s.hand p).queue m = s.queue m := rfl
@[simp] theorem State.hand_port (p : OutPacket) (m : LineNo) : (s.hand p).port m = s.port m := rfl
@[simp] theorem State.hand_hl_rxSpace (p : OutPacket) : (s.hand p).hl.rxSpace = s.hl.rxSpace := rfl
@[simp] theorem State.hand_hl_rx (p : OutPacket) : (s.hand p).hl.rx = s.hl.rx := rfl
@[simp] theorem State.hand_hl_kept (p : OutPacket) : (s.hand p).hl.kept = s.hl.kept := rfl
@[simp] theorem State.hand_hl_gapTimer (p : OutPacket) : (s.hand p).hl.gapTimer = s.hl.gapTimer := rfl
@[simp] theorem State.hand_hl_slots (p : OutPacket) : (s.hand p).hl.slots = s.hl.slots := rfl
@[simp] theorem State.hand_hl_handed (p : OutPacket) : (s.hand p).hl.handed = s.hl.handed := rfl
@[simp] theorem State.hand_hl_session (p : OutPacket) : (s.hand p).hl.session = s.hl.session := rfl
@[simp] theorem State.hand_hl_opening (p : OutPacket) : (s.hand p).hl.opening = s.hl.opening := rfl
@[simp] theorem State.hand_hl_ending (p : OutPacket) : (s.hand p).hl.ending = s.hl.ending := rfl
@[simp] theorem State.hand_hl_opensWaiting (p : OutPacket) : (s.hand p).hl.opensWaiting = s.hl.opensWaiting := rfl
@[simp] theorem State.hand_hl_incoming (p : OutPacket) : (s.hand p).hl.incoming = s.hl.incoming := rfl
@[simp] theorem State.hand_hl_sending (p : OutPacket) : (s.hand p).hl.sending = s.hl.sending := rfl
@[simp] theorem State.hand_hl_waiting (p : OutPacket) : (s.hand p).hl.waiting = s.hl.waiting ++ [p] := rfl
@[simp] theorem State.hand_hl_noticesUnsent (p : OutPacket) : (s.hand p).hl.noticesUnsent = s.hl.noticesUnsent := rfl
@[simp] theorem State.hand_hl_ignoring (p : OutPacket) : (s.hand p).hl.ignoring = s.hl.ignoring := rfl
@[simp] theorem State.hand_hl_cause (p : OutPacket) : (s.hand p).hl.cause = s.hl.cause := rfl
@[simp] theorem State.hand_hl_counters (p : OutPacket) : (s.hand p).hl.counters = s.hl.counters := rfl

@[simp] theorem State.handToHL_pending (p : OutPacket) : (s.handToHL p).pending = s.pending := rfl
@[simp] theorem State.handToHL_time (p : OutPacket) : (s.handToHL p).time = s.time := rfl
@[simp] theorem State.handToHL_units (p : OutPacket) : (s.handToHL p).units = s.units := rfl
@[simp] theorem State.handToHL_pool (p : OutPacket) : (s.handToHL p).pool = s.pool := rfl
@[simp] theorem State.handToHL_re (p : OutPacket) : (s.handToHL p).re = s.re := rfl
@[simp] theorem State.handToHL_queues (p : OutPacket) : (s.handToHL p).queues = s.queues := rfl
@[simp] theorem State.handToHL_ports (p : OutPacket) : (s.handToHL p).ports = s.ports := rfl
@[simp] theorem State.handToHL_ru (p : OutPacket) : (s.handToHL p).ru = s.ru := rfl
@[simp] theorem State.handToHL_freeCount (p : OutPacket) : (s.handToHL p).freeCount = s.freeCount := rfl
@[simp] theorem State.handToHL_unit (p : OutPacket) (m : LineNo) : (s.handToHL p).unit m = s.unit m := rfl
@[simp] theorem State.handToHL_slot (p : OutPacket) (m : SlotNo) : (s.handToHL p).slot m = s.slot m := rfl
@[simp] theorem State.handToHL_route (p : OutPacket) (m : RouteNo) : (s.handToHL p).route m = s.route m := rfl
@[simp] theorem State.handToHL_queue (p : OutPacket) (m : QueueNo) : (s.handToHL p).queue m = s.queue m := rfl
@[simp] theorem State.handToHL_port (p : OutPacket) (m : LineNo) : (s.handToHL p).port m = s.port m := rfl
@[simp] theorem State.handToHL_hl_rxSpace (p : OutPacket) : (s.handToHL p).hl.rxSpace = s.hl.rxSpace := rfl
@[simp] theorem State.handToHL_hl_rx (p : OutPacket) : (s.handToHL p).hl.rx = s.hl.rx := rfl
@[simp] theorem State.handToHL_hl_kept (p : OutPacket) : (s.handToHL p).hl.kept = s.hl.kept := rfl
@[simp] theorem State.handToHL_hl_gapTimer (p : OutPacket) : (s.handToHL p).hl.gapTimer = s.hl.gapTimer := rfl
@[simp] theorem State.handToHL_hl_slots (p : OutPacket) : (s.handToHL p).hl.slots = s.hl.slots := rfl
@[simp] theorem State.handToHL_hl_handed (p : OutPacket) : (s.handToHL p).hl.handed = s.hl.handed := rfl
@[simp] theorem State.handToHL_hl_session (p : OutPacket) : (s.handToHL p).hl.session = s.hl.session := rfl
@[simp] theorem State.handToHL_hl_opening (p : OutPacket) : (s.handToHL p).hl.opening = s.hl.opening := rfl
@[simp] theorem State.handToHL_hl_ending (p : OutPacket) : (s.handToHL p).hl.ending = s.hl.ending := rfl
@[simp] theorem State.handToHL_hl_opensWaiting (p : OutPacket) :
    (s.handToHL p).hl.opensWaiting = s.hl.opensWaiting := rfl
@[simp] theorem State.handToHL_hl_incoming (p : OutPacket) : (s.handToHL p).hl.incoming = s.hl.incoming ++ [p] := rfl
@[simp] theorem State.handToHL_hl_sending (p : OutPacket) : (s.handToHL p).hl.sending = s.hl.sending := rfl
@[simp] theorem State.handToHL_hl_waiting (p : OutPacket) : (s.handToHL p).hl.waiting = s.hl.waiting := rfl
@[simp] theorem State.handToHL_hl_noticesUnsent (p : OutPacket) :
    (s.handToHL p).hl.noticesUnsent = s.hl.noticesUnsent := rfl
@[simp] theorem State.handToHL_hl_ignoring (p : OutPacket) : (s.handToHL p).hl.ignoring = s.hl.ignoring := rfl
@[simp] theorem State.handToHL_hl_cause (p : OutPacket) : (s.handToHL p).hl.cause = s.hl.cause := rfl
@[simp] theorem State.handToHL_hl_counters (p : OutPacket) : (s.handToHL p).hl.counters = s.hl.counters := rfl

@[simp] theorem State.freeTag_pending (tag : Byte) : (s.freeTag tag).pending = s.pending := rfl
@[simp] theorem State.freeTag_time (tag : Byte) : (s.freeTag tag).time = s.time := rfl
@[simp] theorem State.freeTag_units (tag : Byte) : (s.freeTag tag).units = s.units := rfl
@[simp] theorem State.freeTag_pool (tag : Byte) : (s.freeTag tag).pool = s.pool := rfl
@[simp] theorem State.freeTag_re (tag : Byte) : (s.freeTag tag).re = s.re := rfl
@[simp] theorem State.freeTag_queues (tag : Byte) : (s.freeTag tag).queues = s.queues := rfl
@[simp] theorem State.freeTag_ports (tag : Byte) : (s.freeTag tag).ports = s.ports := rfl
@[simp] theorem State.freeTag_ru (tag : Byte) : (s.freeTag tag).ru = s.ru := rfl
@[simp] theorem State.freeTag_freeCount (tag : Byte) : (s.freeTag tag).freeCount = s.freeCount := rfl
@[simp] theorem State.freeTag_unit (tag : Byte) (m : LineNo) : (s.freeTag tag).unit m = s.unit m := rfl
@[simp] theorem State.freeTag_slot (tag : Byte) (m : SlotNo) : (s.freeTag tag).slot m = s.slot m := rfl
@[simp] theorem State.freeTag_route (tag : Byte) (m : RouteNo) : (s.freeTag tag).route m = s.route m := rfl
@[simp] theorem State.freeTag_queue (tag : Byte) (m : QueueNo) : (s.freeTag tag).queue m = s.queue m := rfl
@[simp] theorem State.freeTag_port (tag : Byte) (m : LineNo) : (s.freeTag tag).port m = s.port m := rfl
@[simp] theorem State.freeTag_hl_rxSpace (tag : Byte) : (s.freeTag tag).hl.rxSpace = s.hl.rxSpace := rfl
@[simp] theorem State.freeTag_hl_rx (tag : Byte) : (s.freeTag tag).hl.rx = s.hl.rx := rfl
@[simp] theorem State.freeTag_hl_kept (tag : Byte) : (s.freeTag tag).hl.kept = s.hl.kept := rfl
@[simp] theorem State.freeTag_hl_gapTimer (tag : Byte) : (s.freeTag tag).hl.gapTimer = s.hl.gapTimer := rfl
@[simp] theorem State.freeTag_hl_slots (tag : Byte) :
    (s.freeTag tag).hl.slots = s.hl.slots.filter (fun r => r.tag != tag) := rfl
@[simp] theorem State.freeTag_hl_handed (tag : Byte) : (s.freeTag tag).hl.handed = s.hl.handed := rfl
@[simp] theorem State.freeTag_hl_session (tag : Byte) : (s.freeTag tag).hl.session = s.hl.session := rfl
@[simp] theorem State.freeTag_hl_opening (tag : Byte) : (s.freeTag tag).hl.opening = s.hl.opening := rfl
@[simp] theorem State.freeTag_hl_ending (tag : Byte) : (s.freeTag tag).hl.ending = s.hl.ending := rfl
@[simp] theorem State.freeTag_hl_opensWaiting (tag : Byte) : (s.freeTag tag).hl.opensWaiting = s.hl.opensWaiting := rfl
@[simp] theorem State.freeTag_hl_incoming (tag : Byte) : (s.freeTag tag).hl.incoming = s.hl.incoming := rfl
@[simp] theorem State.freeTag_hl_sending (tag : Byte) : (s.freeTag tag).hl.sending = s.hl.sending := rfl
@[simp] theorem State.freeTag_hl_waiting (tag : Byte) : (s.freeTag tag).hl.waiting = s.hl.waiting := rfl
@[simp] theorem State.freeTag_hl_noticesUnsent (tag : Byte) :
    (s.freeTag tag).hl.noticesUnsent = s.hl.noticesUnsent := rfl
@[simp] theorem State.freeTag_hl_ignoring (tag : Byte) : (s.freeTag tag).hl.ignoring = s.hl.ignoring := rfl
@[simp] theorem State.freeTag_hl_cause (tag : Byte) : (s.freeTag tag).hl.cause = s.hl.cause := rfl
@[simp] theorem State.freeTag_hl_counters (tag : Byte) : (s.freeTag tag).hl.counters = s.hl.counters := rfl

@[simp] theorem State.handOver_pending (b : Block) (i : Instr) : (s.handOver b i).pending = s.pending := rfl
@[simp] theorem State.handOver_time (b : Block) (i : Instr) : (s.handOver b i).time = s.time := rfl
@[simp] theorem State.handOver_units (b : Block) (i : Instr) : (s.handOver b i).units = s.units := rfl
@[simp] theorem State.handOver_pool (b : Block) (i : Instr) : (s.handOver b i).pool = s.pool := rfl
@[simp] theorem State.handOver_re (b : Block) (i : Instr) : (s.handOver b i).re = s.re := rfl
@[simp] theorem State.handOver_queues (b : Block) (i : Instr) : (s.handOver b i).queues = s.queues := rfl
@[simp] theorem State.handOver_ports (b : Block) (i : Instr) : (s.handOver b i).ports = s.ports := rfl
@[simp] theorem State.handOver_ru (b : Block) (i : Instr) : (s.handOver b i).ru = s.ru := rfl
@[simp] theorem State.handOver_freeCount (b : Block) (i : Instr) : (s.handOver b i).freeCount = s.freeCount := rfl
@[simp] theorem State.handOver_unit (b : Block) (i : Instr) (m : LineNo) : (s.handOver b i).unit m = s.unit m := rfl
@[simp] theorem State.handOver_slot (b : Block) (i : Instr) (m : SlotNo) : (s.handOver b i).slot m = s.slot m := rfl
@[simp] theorem State.handOver_route (b : Block) (i : Instr) (m : RouteNo) : (s.handOver b i).route m = s.route m := rfl
@[simp] theorem State.handOver_queue (b : Block) (i : Instr) (m : QueueNo) : (s.handOver b i).queue m = s.queue m := rfl
@[simp] theorem State.handOver_port (b : Block) (i : Instr) (m : LineNo) : (s.handOver b i).port m = s.port m := rfl
@[simp] theorem State.handOver_hl_rxSpace (b : Block) (i : Instr) : (s.handOver b i).hl.rxSpace = s.hl.rxSpace := rfl
@[simp] theorem State.handOver_hl_rx (b : Block) (i : Instr) : (s.handOver b i).hl.rx = s.hl.rx := rfl
@[simp] theorem State.handOver_hl_kept (b : Block) (i : Instr) : (s.handOver b i).hl.kept = s.hl.kept := rfl
@[simp] theorem State.handOver_hl_gapTimer (b : Block) (i : Instr) : (s.handOver b i).hl.gapTimer = s.hl.gapTimer := rfl
@[simp] theorem State.handOver_hl_slots (b : Block) (i : Instr) : (s.handOver b i).hl.slots = s.hl.slots := rfl
@[simp] theorem State.handOver_hl_handed (b : Block) (i : Instr) :
    (s.handOver b i).hl.handed = s.hl.handed ++ [(b, i)] := rfl
@[simp] theorem State.handOver_hl_session (b : Block) (i : Instr) : (s.handOver b i).hl.session = s.hl.session := rfl
@[simp] theorem State.handOver_hl_opening (b : Block) (i : Instr) : (s.handOver b i).hl.opening = s.hl.opening := rfl
@[simp] theorem State.handOver_hl_ending (b : Block) (i : Instr) : (s.handOver b i).hl.ending = s.hl.ending := rfl
@[simp] theorem State.handOver_hl_opensWaiting (b : Block) (i : Instr) :
    (s.handOver b i).hl.opensWaiting = s.hl.opensWaiting := rfl
@[simp] theorem State.handOver_hl_incoming (b : Block) (i : Instr) : (s.handOver b i).hl.incoming = s.hl.incoming := rfl
@[simp] theorem State.handOver_hl_sending (b : Block) (i : Instr) : (s.handOver b i).hl.sending = s.hl.sending := rfl
@[simp] theorem State.handOver_hl_waiting (b : Block) (i : Instr) : (s.handOver b i).hl.waiting = s.hl.waiting := rfl
@[simp] theorem State.handOver_hl_noticesUnsent (b : Block) (i : Instr) :
    (s.handOver b i).hl.noticesUnsent = s.hl.noticesUnsent := rfl
@[simp] theorem State.handOver_hl_ignoring (b : Block) (i : Instr) : (s.handOver b i).hl.ignoring = s.hl.ignoring := rfl
@[simp] theorem State.handOver_hl_cause (b : Block) (i : Instr) : (s.handOver b i).hl.cause = s.hl.cause := rfl
@[simp] theorem State.handOver_hl_counters (b : Block) (i : Instr) : (s.handOver b i).hl.counters = s.hl.counters := rfl

@[simp] theorem State.reply_pending (tag code : Byte) (status : Status) (results : List Byte) : (s.reply tag code status results).pending = s.pending := rfl
@[simp] theorem State.reply_time (tag code : Byte) (status : Status) (results : List Byte) : (s.reply tag code status results).time = s.time := rfl
@[simp] theorem State.reply_units (tag code : Byte) (status : Status) (results : List Byte) : (s.reply tag code status results).units = s.units := rfl
@[simp] theorem State.reply_pool (tag code : Byte) (status : Status) (results : List Byte) : (s.reply tag code status results).pool = s.pool := rfl
@[simp] theorem State.reply_re (tag code : Byte) (status : Status) (results : List Byte) : (s.reply tag code status results).re = s.re := rfl
@[simp] theorem State.reply_queues (tag code : Byte) (status : Status) (results : List Byte) : (s.reply tag code status results).queues = s.queues := rfl
@[simp] theorem State.reply_ports (tag code : Byte) (status : Status) (results : List Byte) : (s.reply tag code status results).ports = s.ports := rfl
@[simp] theorem State.reply_ru (tag code : Byte) (status : Status) (results : List Byte) : (s.reply tag code status results).ru = s.ru := rfl
@[simp] theorem State.reply_freeCount (tag code : Byte) (status : Status) (results : List Byte) : (s.reply tag code status results).freeCount = s.freeCount := rfl
@[simp] theorem State.reply_unit (tag code : Byte) (status : Status) (results : List Byte) (m : LineNo) : (s.reply tag code status results).unit m = s.unit m := rfl
@[simp] theorem State.reply_slot (tag code : Byte) (status : Status) (results : List Byte) (m : SlotNo) : (s.reply tag code status results).slot m = s.slot m := rfl
@[simp] theorem State.reply_route (tag code : Byte) (status : Status) (results : List Byte) (m : RouteNo) : (s.reply tag code status results).route m = s.route m := rfl
@[simp] theorem State.reply_queue (tag code : Byte) (status : Status) (results : List Byte) (m : QueueNo) : (s.reply tag code status results).queue m = s.queue m := rfl
@[simp] theorem State.reply_port (tag code : Byte) (status : Status) (results : List Byte) (m : LineNo) : (s.reply tag code status results).port m = s.port m := rfl
@[simp] theorem State.reply_hl_rxSpace (tag code : Byte) (status : Status) (results : List Byte) :
    (s.reply tag code status results).hl.rxSpace = s.hl.rxSpace := rfl
@[simp] theorem State.reply_hl_rx (tag code : Byte) (status : Status) (results : List Byte) :
    (s.reply tag code status results).hl.rx = s.hl.rx := rfl
@[simp] theorem State.reply_hl_kept (tag code : Byte) (status : Status) (results : List Byte) :
    (s.reply tag code status results).hl.kept = s.hl.kept := rfl
@[simp] theorem State.reply_hl_gapTimer (tag code : Byte) (status : Status) (results : List Byte) :
    (s.reply tag code status results).hl.gapTimer = s.hl.gapTimer := rfl
@[simp] theorem State.reply_hl_slots (tag code : Byte) (status : Status) (results : List Byte) :
    (s.reply tag code status results).hl.slots = s.hl.slots.filter (fun r => r.tag != tag) := rfl
@[simp] theorem State.reply_hl_handed (tag code : Byte) (status : Status) (results : List Byte) :
    (s.reply tag code status results).hl.handed = s.hl.handed := rfl
@[simp] theorem State.reply_hl_session (tag code : Byte) (status : Status) (results : List Byte) :
    (s.reply tag code status results).hl.session = s.hl.session := rfl
@[simp] theorem State.reply_hl_opening (tag code : Byte) (status : Status) (results : List Byte) :
    (s.reply tag code status results).hl.opening = s.hl.opening := rfl
@[simp] theorem State.reply_hl_ending (tag code : Byte) (status : Status) (results : List Byte) :
    (s.reply tag code status results).hl.ending = s.hl.ending := rfl
@[simp] theorem State.reply_hl_opensWaiting (tag code : Byte) (status : Status) (results : List Byte) :
    (s.reply tag code status results).hl.opensWaiting = s.hl.opensWaiting := rfl
@[simp] theorem State.reply_hl_incoming (tag code : Byte) (status : Status) (results : List Byte) :
    (s.reply tag code status results).hl.incoming = s.hl.incoming := rfl
@[simp] theorem State.reply_hl_sending (tag code : Byte) (status : Status) (results : List Byte) :
    (s.reply tag code status results).hl.sending = s.hl.sending := rfl
@[simp] theorem State.reply_hl_waiting (tag code : Byte) (status : Status) (results : List Byte) :
    (s.reply tag code status results).hl.waiting = s.hl.waiting ++ [replyPacket tag code status results] := rfl
@[simp] theorem State.reply_hl_noticesUnsent (tag code : Byte) (status : Status) (results : List Byte) :
    (s.reply tag code status results).hl.noticesUnsent = s.hl.noticesUnsent := rfl
@[simp] theorem State.reply_hl_ignoring (tag code : Byte) (status : Status) (results : List Byte) :
    (s.reply tag code status results).hl.ignoring = s.hl.ignoring := rfl
@[simp] theorem State.reply_hl_cause (tag code : Byte) (status : Status) (results : List Byte) :
    (s.reply tag code status results).hl.cause = s.hl.cause := rfl
@[simp] theorem State.reply_hl_counters (tag code : Byte) (status : Status) (results : List Byte) :
    (s.reply tag code status results).hl.counters = s.hl.counters := rfl

@[simp] theorem State.answer_pending (tag code : Byte) (status : Status) (results : List Byte) : (s.answer tag code status results).pending = s.pending := rfl
@[simp] theorem State.answer_time (tag code : Byte) (status : Status) (results : List Byte) : (s.answer tag code status results).time = s.time := rfl
@[simp] theorem State.answer_units (tag code : Byte) (status : Status) (results : List Byte) : (s.answer tag code status results).units = s.units := rfl
@[simp] theorem State.answer_pool (tag code : Byte) (status : Status) (results : List Byte) : (s.answer tag code status results).pool = s.pool := rfl
@[simp] theorem State.answer_re (tag code : Byte) (status : Status) (results : List Byte) : (s.answer tag code status results).re = s.re := rfl
@[simp] theorem State.answer_queues (tag code : Byte) (status : Status) (results : List Byte) : (s.answer tag code status results).queues = s.queues := rfl
@[simp] theorem State.answer_ports (tag code : Byte) (status : Status) (results : List Byte) : (s.answer tag code status results).ports = s.ports := rfl
@[simp] theorem State.answer_ru (tag code : Byte) (status : Status) (results : List Byte) : (s.answer tag code status results).ru = s.ru := rfl
@[simp] theorem State.answer_freeCount (tag code : Byte) (status : Status) (results : List Byte) : (s.answer tag code status results).freeCount = s.freeCount := rfl
@[simp] theorem State.answer_unit (tag code : Byte) (status : Status) (results : List Byte) (m : LineNo) : (s.answer tag code status results).unit m = s.unit m := rfl
@[simp] theorem State.answer_slot (tag code : Byte) (status : Status) (results : List Byte) (m : SlotNo) : (s.answer tag code status results).slot m = s.slot m := rfl
@[simp] theorem State.answer_route (tag code : Byte) (status : Status) (results : List Byte) (m : RouteNo) : (s.answer tag code status results).route m = s.route m := rfl
@[simp] theorem State.answer_queue (tag code : Byte) (status : Status) (results : List Byte) (m : QueueNo) : (s.answer tag code status results).queue m = s.queue m := rfl
@[simp] theorem State.answer_port (tag code : Byte) (status : Status) (results : List Byte) (m : LineNo) : (s.answer tag code status results).port m = s.port m := rfl
@[simp] theorem State.answer_hl_rxSpace (tag code : Byte) (status : Status) (results : List Byte) :
    (s.answer tag code status results).hl.rxSpace = s.hl.rxSpace := rfl
@[simp] theorem State.answer_hl_rx (tag code : Byte) (status : Status) (results : List Byte) :
    (s.answer tag code status results).hl.rx = s.hl.rx := rfl
@[simp] theorem State.answer_hl_kept (tag code : Byte) (status : Status) (results : List Byte) :
    (s.answer tag code status results).hl.kept = s.hl.kept := rfl
@[simp] theorem State.answer_hl_gapTimer (tag code : Byte) (status : Status) (results : List Byte) :
    (s.answer tag code status results).hl.gapTimer = s.hl.gapTimer := rfl
@[simp] theorem State.answer_hl_slots (tag code : Byte) (status : Status) (results : List Byte) :
    (s.answer tag code status results).hl.slots = s.hl.slots := rfl
@[simp] theorem State.answer_hl_handed (tag code : Byte) (status : Status) (results : List Byte) :
    (s.answer tag code status results).hl.handed = s.hl.handed := rfl
@[simp] theorem State.answer_hl_session (tag code : Byte) (status : Status) (results : List Byte) :
    (s.answer tag code status results).hl.session = s.hl.session := rfl
@[simp] theorem State.answer_hl_opening (tag code : Byte) (status : Status) (results : List Byte) :
    (s.answer tag code status results).hl.opening = s.hl.opening := rfl
@[simp] theorem State.answer_hl_ending (tag code : Byte) (status : Status) (results : List Byte) :
    (s.answer tag code status results).hl.ending = s.hl.ending := rfl
@[simp] theorem State.answer_hl_opensWaiting (tag code : Byte) (status : Status) (results : List Byte) :
    (s.answer tag code status results).hl.opensWaiting = s.hl.opensWaiting := rfl
@[simp] theorem State.answer_hl_incoming (tag code : Byte) (status : Status) (results : List Byte) :
    (s.answer tag code status results).hl.incoming = s.hl.incoming ++ [replyPacket tag code status results] := rfl
@[simp] theorem State.answer_hl_sending (tag code : Byte) (status : Status) (results : List Byte) :
    (s.answer tag code status results).hl.sending = s.hl.sending := rfl
@[simp] theorem State.answer_hl_waiting (tag code : Byte) (status : Status) (results : List Byte) :
    (s.answer tag code status results).hl.waiting = s.hl.waiting := rfl
@[simp] theorem State.answer_hl_noticesUnsent (tag code : Byte) (status : Status) (results : List Byte) :
    (s.answer tag code status results).hl.noticesUnsent = s.hl.noticesUnsent := rfl
@[simp] theorem State.answer_hl_ignoring (tag code : Byte) (status : Status) (results : List Byte) :
    (s.answer tag code status results).hl.ignoring = s.hl.ignoring := rfl
@[simp] theorem State.answer_hl_cause (tag code : Byte) (status : Status) (results : List Byte) :
    (s.answer tag code status results).hl.cause = s.hl.cause := rfl
@[simp] theorem State.answer_hl_counters (tag code : Byte) (status : Status) (results : List Byte) :
    (s.answer tag code status results).hl.counters = s.hl.counters := rfl

@[simp] theorem State.handReport_pending (r : QueuedReport) : (s.handReport r).pending = s.pending := rfl
@[simp] theorem State.handReport_time (r : QueuedReport) : (s.handReport r).time = s.time := rfl
@[simp] theorem State.handReport_units (r : QueuedReport) : (s.handReport r).units = s.units := rfl
@[simp] theorem State.handReport_pool (r : QueuedReport) : (s.handReport r).pool = s.pool := rfl
@[simp] theorem State.handReport_re (r : QueuedReport) : (s.handReport r).re = s.re := rfl
@[simp] theorem State.handReport_queues (r : QueuedReport) : (s.handReport r).queues = s.queues := rfl
@[simp] theorem State.handReport_ports (r : QueuedReport) : (s.handReport r).ports = s.ports := rfl
@[simp] theorem State.handReport_ru (r : QueuedReport) : (s.handReport r).ru = s.ru := rfl
@[simp] theorem State.handReport_freeCount (r : QueuedReport) : (s.handReport r).freeCount = s.freeCount := rfl
@[simp] theorem State.handReport_unit (r : QueuedReport) (m : LineNo) : (s.handReport r).unit m = s.unit m := rfl
@[simp] theorem State.handReport_slot (r : QueuedReport) (m : SlotNo) : (s.handReport r).slot m = s.slot m := rfl
@[simp] theorem State.handReport_route (r : QueuedReport) (m : RouteNo) : (s.handReport r).route m = s.route m := rfl
@[simp] theorem State.handReport_queue (r : QueuedReport) (m : QueueNo) : (s.handReport r).queue m = s.queue m := rfl
@[simp] theorem State.handReport_port (r : QueuedReport) (m : LineNo) : (s.handReport r).port m = s.port m := rfl
@[simp] theorem State.handReport_hl_rxSpace (r : QueuedReport) : (s.handReport r).hl.rxSpace = s.hl.rxSpace := rfl
@[simp] theorem State.handReport_hl_rx (r : QueuedReport) : (s.handReport r).hl.rx = s.hl.rx := rfl
@[simp] theorem State.handReport_hl_kept (r : QueuedReport) : (s.handReport r).hl.kept = s.hl.kept := rfl
@[simp] theorem State.handReport_hl_gapTimer (r : QueuedReport) : (s.handReport r).hl.gapTimer = s.hl.gapTimer := rfl
@[simp] theorem State.handReport_hl_slots (r : QueuedReport) : (s.handReport r).hl.slots = s.hl.slots := rfl
@[simp] theorem State.handReport_hl_handed (r : QueuedReport) : (s.handReport r).hl.handed = s.hl.handed := rfl
@[simp] theorem State.handReport_hl_session (r : QueuedReport) : (s.handReport r).hl.session = s.hl.session := rfl
@[simp] theorem State.handReport_hl_opening (r : QueuedReport) : (s.handReport r).hl.opening = s.hl.opening := rfl
@[simp] theorem State.handReport_hl_ending (r : QueuedReport) : (s.handReport r).hl.ending = s.hl.ending := rfl
@[simp] theorem State.handReport_hl_opensWaiting (r : QueuedReport) :
    (s.handReport r).hl.opensWaiting = s.hl.opensWaiting := rfl
@[simp] theorem State.handReport_hl_incoming (r : QueuedReport) :
    (s.handReport r).hl.incoming = s.hl.incoming ++ [⟨.report r.sequence, 0, r.payload⟩] := rfl
@[simp] theorem State.handReport_hl_sending (r : QueuedReport) : (s.handReport r).hl.sending = s.hl.sending := rfl
@[simp] theorem State.handReport_hl_waiting (r : QueuedReport) : (s.handReport r).hl.waiting = s.hl.waiting := rfl
@[simp] theorem State.handReport_hl_noticesUnsent (r : QueuedReport) :
    (s.handReport r).hl.noticesUnsent = s.hl.noticesUnsent := rfl
@[simp] theorem State.handReport_hl_ignoring (r : QueuedReport) : (s.handReport r).hl.ignoring = s.hl.ignoring := rfl
@[simp] theorem State.handReport_hl_cause (r : QueuedReport) : (s.handReport r).hl.cause = s.hl.cause := rfl
@[simp] theorem State.handReport_hl_counters (r : QueuedReport) : (s.handReport r).hl.counters = s.hl.counters := rfl

@[simp] theorem State.dropCopies_pending (gone : OutPacket → Bool) : (s.dropCopies gone).pending = s.pending := rfl
@[simp] theorem State.dropCopies_time (gone : OutPacket → Bool) : (s.dropCopies gone).time = s.time := rfl
@[simp] theorem State.dropCopies_units (gone : OutPacket → Bool) : (s.dropCopies gone).units = s.units := rfl
@[simp] theorem State.dropCopies_pool (gone : OutPacket → Bool) : (s.dropCopies gone).pool = s.pool := rfl
@[simp] theorem State.dropCopies_re (gone : OutPacket → Bool) : (s.dropCopies gone).re = s.re := rfl
@[simp] theorem State.dropCopies_queues (gone : OutPacket → Bool) : (s.dropCopies gone).queues = s.queues := rfl
@[simp] theorem State.dropCopies_ports (gone : OutPacket → Bool) : (s.dropCopies gone).ports = s.ports := rfl
@[simp] theorem State.dropCopies_ru (gone : OutPacket → Bool) : (s.dropCopies gone).ru = s.ru := rfl
@[simp] theorem State.dropCopies_freeCount (gone : OutPacket → Bool) : (s.dropCopies gone).freeCount = s.freeCount := rfl
@[simp] theorem State.dropCopies_unit (gone : OutPacket → Bool) (m : LineNo) : (s.dropCopies gone).unit m = s.unit m := rfl
@[simp] theorem State.dropCopies_slot (gone : OutPacket → Bool) (m : SlotNo) : (s.dropCopies gone).slot m = s.slot m := rfl
@[simp] theorem State.dropCopies_route (gone : OutPacket → Bool) (m : RouteNo) : (s.dropCopies gone).route m = s.route m := rfl
@[simp] theorem State.dropCopies_queue (gone : OutPacket → Bool) (m : QueueNo) : (s.dropCopies gone).queue m = s.queue m := rfl
@[simp] theorem State.dropCopies_port (gone : OutPacket → Bool) (m : LineNo) : (s.dropCopies gone).port m = s.port m := rfl
@[simp] theorem State.dropCopies_hl_rxSpace (gone : OutPacket → Bool) :
    (s.dropCopies gone).hl.rxSpace = s.hl.rxSpace := rfl
@[simp] theorem State.dropCopies_hl_rx (gone : OutPacket → Bool) : (s.dropCopies gone).hl.rx = s.hl.rx := rfl
@[simp] theorem State.dropCopies_hl_kept (gone : OutPacket → Bool) : (s.dropCopies gone).hl.kept = s.hl.kept := rfl
@[simp] theorem State.dropCopies_hl_gapTimer (gone : OutPacket → Bool) :
    (s.dropCopies gone).hl.gapTimer = s.hl.gapTimer := rfl
@[simp] theorem State.dropCopies_hl_slots (gone : OutPacket → Bool) : (s.dropCopies gone).hl.slots = s.hl.slots := rfl
@[simp] theorem State.dropCopies_hl_handed (gone : OutPacket → Bool) :
    (s.dropCopies gone).hl.handed = s.hl.handed := rfl
@[simp] theorem State.dropCopies_hl_session (gone : OutPacket → Bool) :
    (s.dropCopies gone).hl.session = s.hl.session := rfl
@[simp] theorem State.dropCopies_hl_opening (gone : OutPacket → Bool) :
    (s.dropCopies gone).hl.opening = s.hl.opening := rfl
@[simp] theorem State.dropCopies_hl_ending (gone : OutPacket → Bool) :
    (s.dropCopies gone).hl.ending = s.hl.ending := rfl
@[simp] theorem State.dropCopies_hl_opensWaiting (gone : OutPacket → Bool) :
    (s.dropCopies gone).hl.opensWaiting = s.hl.opensWaiting := rfl
@[simp] theorem State.dropCopies_hl_incoming (gone : OutPacket → Bool) :
    (s.dropCopies gone).hl.incoming = s.hl.incoming.filter (fun p => !gone p) := rfl
@[simp] theorem State.dropCopies_hl_sending (gone : OutPacket → Bool) :
    (s.dropCopies gone).hl.sending = s.hl.sending := rfl
@[simp] theorem State.dropCopies_hl_waiting (gone : OutPacket → Bool) :
    (s.dropCopies gone).hl.waiting = s.hl.waiting.filter (fun p => !gone p) := rfl
@[simp] theorem State.dropCopies_hl_noticesUnsent (gone : OutPacket → Bool) :
    (s.dropCopies gone).hl.noticesUnsent = s.hl.noticesUnsent := rfl
@[simp] theorem State.dropCopies_hl_ignoring (gone : OutPacket → Bool) :
    (s.dropCopies gone).hl.ignoring = s.hl.ignoring := rfl
@[simp] theorem State.dropCopies_hl_cause (gone : OutPacket → Bool) : (s.dropCopies gone).hl.cause = s.hl.cause := rfl
@[simp] theorem State.dropCopies_hl_counters (gone : OutPacket → Bool) :
    (s.dropCopies gone).hl.counters = s.hl.counters := rfl

/-! ### The changed place and the others -/

theorem vector_get_set_self {α : Type} {n : Nat} (v : Vector α n) (i : Fin n) (x : α) : (v.set i x)[i] = x := by simp

theorem vector_get_set_ne {α : Type} {n : Nat} (v : Vector α n) (i j : Fin n) (x : α) (h : j ≠ i) :
    (v.set i x)[j] = v[j] := by
  have : i.val ≠ j.val := fun e => h (Fin.ext e.symm)
  simp [this]

@[simp] theorem State.modUnit_unit_self (n : LineNo) (f : CaptureUnit → CaptureUnit) :
    (s.modUnit n f).unit n = f (s.unit n) := vector_get_set_self _ n _

theorem State.modUnit_unit_ne (n m : LineNo) (f : CaptureUnit → CaptureUnit) (h : m ≠ n) :
    (s.modUnit n f).unit m = s.unit m := vector_get_set_ne _ n m _ h

@[simp] theorem State.modPort_port_self (n : LineNo) (f : LinePort → LinePort) :
    (s.modPort n f).port n = f (s.port n) := vector_get_set_self _ n _

theorem State.modPort_port_ne (n m : LineNo) (f : LinePort → LinePort) (h : m ≠ n) :
    (s.modPort n f).port m = s.port m := vector_get_set_ne _ n m _ h

@[simp] theorem State.modQueue_queue_self (q : QueueNo) (f : DeliveryQueue → DeliveryQueue) :
    (s.modQueue q f).queue q = f (s.queue q) := vector_get_set_self _ q _

theorem State.modQueue_queue_ne (q r : QueueNo) (f : DeliveryQueue → DeliveryQueue) (h : r ≠ q) :
    (s.modQueue q f).queue r = s.queue r := vector_get_set_ne _ q r _ h

@[simp] theorem State.modSlot_slot_self (i : SlotNo) (f : Slot → Slot) :
    (s.modSlot i f).slot i = f (s.slot i) := vector_get_set_self _ i _

theorem State.modSlot_slot_ne (i j : SlotNo) (f : Slot → Slot) (h : j ≠ i) :
    (s.modSlot i f).slot j = s.slot j := vector_get_set_ne _ i j _ h

@[simp] theorem State.freeSlot_slot_self (i : SlotNo) : (s.freeSlot i).slot i = {} := vector_get_set_self _ i _

theorem State.freeSlot_slot_ne (i j : SlotNo) (h : j ≠ i) : (s.freeSlot i).slot j = s.slot j :=
  vector_get_set_ne _ i j _ h

@[simp] theorem State.setRoute_route_self (i : RouteNo) (e : Option RouteEntry) :
    (s.setRoute i e).route i = e := vector_get_set_self _ i _

theorem State.setRoute_route_ne (i j : RouteNo) (e : Option RouteEntry) (h : j ≠ i) :
    (s.setRoute i e).route j = s.route j := vector_get_set_ne _ i j _ h

end Sys2Proof.Machine
end

