-- ==== Sys2Proof/Laws/Requests.lean ====
section
/-! SUPPORT. What the acceptance and the answering of a request can do, said once: the provers cite these lemmas and do not
unfold `takeRequest`, `request`, `blockRequest`, `reply`, `answer` or `hand`. -/

-- One theorem at a time: hundreds of small ones at once start more threads than the memory limit holds.
set_option Elab.async false

namespace Sys2Proof.Machine

variable (s : State)

/-! ### Handing a packet over -/

theorem State.hand_frame (p : OutPacket) : { s.hand p with hl := s.hl } = s := rfl

theorem State.hand_outgoing (p : OutPacket) : (s.hand p).outgoing = s.outgoing ++ [p] := by
  simp [State.hand, State.outgoing]

/-- A block's hand-over to HL changes nothing but what HL has yet to take. -/
theorem State.handToHL_frame (p : OutPacket) : { s.handToHL p with hl := s.hl } = s := rfl

theorem State.handToHL_outgoing (p : OutPacket) : (s.handToHL p).outgoing = s.outgoing := rfl

/-- HL takes a packet from a block: a reply joins the list and frees its slot; a report copy joins it, or is dropped behind a
copy with its number (R151, R160). -/
theorem State.joinPacket_cases (p : OutPacket) :
    (p.isReport = false ∧ s.joinPacket p = (s.freeTag p.tag).hand p)
      ∨ (p.isReport = true ∧ s.hl.waiting.any (fun x => x.kind == p.kind) = true ∧ s.joinPacket p = s)
      ∨ (p.isReport = true ∧ s.hl.waiting.any (fun x => x.kind == p.kind) = false ∧ s.joinPacket p = s.hand p) := by
  cases h : p.kind with
  | report k =>
    cases w : s.hl.waiting.any (fun x => x.kind == .report k) with
    | false => exact .inr (.inr ⟨by simp [OutPacket.isReport, h], rfl, by simp [State.joinPacket, h, w]⟩)
    | true => exact .inr (.inl ⟨by simp [OutPacket.isReport, h], rfl, by simp [State.joinPacket, h, w]⟩)
  | _ => exact .inl ⟨by simp [OutPacket.isReport, h], by simp [State.joinPacket, h, State.joinReply]⟩

/-! ### Taking a request -/

/-- A request that is accepted goes on from the state that holds its slot. -/
theorem State.takeRequest_accepted (tag code : Byte) (f : State → State) (h : Accepts s tag) :
    s.takeRequest tag code f = f (s.holding tag code) := by
  obtain ⟨h1, h2, h3, h4⟩ := h
  have h3' : (s.hl.slots.any fun r => r.tag == tag) = false := by simpa using h3
  simp only [State.takeRequest, h1, h2, State.packetDone, h3', State.holding, State.heard]
  simp only [Bool.false_eq_true, if_false]
  rw [if_neg (by simp [Config.requestSlots] at h4 ⊢; omega)]

/-- While HL ignores its input a request changes nothing (R158). -/
theorem State.takeRequest_ignored (tag code : Byte) (f : State → State) (h : s.hl.ignoring = true) :
    s.takeRequest tag code f = s := by simp [State.takeRequest, h]

/-- A request that is not accepted is refused without a slot, by the first of R150's steps that applies. -/
theorem State.takeRequest_refused (tag code : Byte) (f : State → State) (h : s.hl.ignoring = false) :
    (tag = 0 → s.takeRequest tag code f = s.refused 0 code .badTag)
      ∧ (tag ≠ 0 → (∃ r ∈ s.hl.slots, r.tag = tag) → s.takeRequest tag code f = s.refused tag code .tagInUse)
      ∧ (tag ≠ 0 → (∀ r ∈ s.hl.slots, r.tag ≠ tag) → Config.requestSlots ≤ s.hl.slots.length →
          s.takeRequest tag code f = s.refused tag code .busy) := by
  refine ⟨fun h0 => ?_, fun h0 hu => ?_, fun h0 hn hb => ?_⟩
  · rw [State.takeRequest, if_neg (by simp [h]), if_pos h0]; rfl
  · have hu' : (s.hl.slots.any fun r => r.tag == tag) = true := by simpa using hu
    rw [State.takeRequest, if_neg (by simp [h]), if_neg h0]
    exact if_pos hu'
  · rw [State.takeRequest, if_neg (by simp [h]), if_neg h0]
    exact (if_neg (by simpa [State.packetDone] using hn)).trans (if_pos hb)

/-- A request that is accepted, needs no session or has one, and passes its checks is carried out. -/
theorem State.request_carriedOut {α : Type} (tag code : Byte) (needs : Bool) (a : α) (f : α → State → State)
    (h : Accepts s tag) (open' : needs = true → s.hl.session = .opened) :
    s.request tag code needs (.ok a) f = f a (s.holding tag code) := by
  rw [State.request, State.takeRequest_accepted s tag code _ h]
  cases needs with
  | false => simp
  | true =>
    have := open' rfl
    simp [State.holding, State.heard, this]

/-- A request that is accepted while the session is CLOSED is refused NO_SESSION where it needs one. -/
theorem State.request_noSession {α : Type} (tag code : Byte) (params : Checked α) (f : α → State → State)
    (h : Accepts s tag) (closed : s.hl.session = .closed) :
    s.request tag code true params f = (s.holding tag code).reply tag code .noSession [] := by
  rw [State.request, State.takeRequest_accepted s tag code _ h]
  simp [State.holding, State.heard, closed]

/-- A request that is accepted and fails a check is answered with it. -/
theorem State.request_badParam {α : Type} (tag code : Byte) (needs : Bool) (position : Nat) (f : α → State → State)
    (h : Accepts s tag) (open' : needs = true → s.hl.session = .opened) :
    s.request tag code needs (.error (.badParam position)) f
      = (s.holding tag code).reply tag code .badParam [byteOf position] := by
  rw [State.request, State.takeRequest_accepted s tag code _ h]
  cases needs with
  | false => simp
  | true =>
    have := open' rfl
    simp [State.holding, State.heard, this]

/-! ### A request that a block owns (R153) -/

/-- A request that is accepted and passes its checks is handed to its owner, which takes it at once where nothing is ahead of it
there and the command stands for that too. -/
theorem State.blockRequest_accepted {α : Type} (stage : Stage) (i : Instr) (tag code : Byte) (a : α) (owner : α → Block)
    (f : α → State → State) (h : Ready s tag) (accepts : stage ≠ .block) :
    s.blockRequest stage i tag code (.ok a) owner f
      = if stage = .whole ∧ s.nothingAhead (owner a) = true then f a (s.holding tag code)
        else (s.holding tag code).handOver (owner a) i := by
  have ahead : (s.holding tag code).nothingAhead (owner a) = s.nothingAhead (owner a) := rfl
  cases stage with
  | block => exact absurd rfl accepts
  | accept => simp [State.blockRequest, State.request_carriedOut s tag code true a _ h.1 (fun _ => h.2), State.handTo]
  | whole =>
    simp only [State.blockRequest, State.request_carriedOut s tag code true a _ h.1 (fun _ => h.2), State.handTo, ahead,
      Bool.true_and, true_and]

/-- The block takes a request that is the first there of what HL has handed it, and that HL has handed to no other. -/
theorem State.takeHanded_first (i : Instr) (b : Block) (f : Block → State → State) (front back : List (Block × Instr))
    (h : s.hl.handed = front ++ (b, i) :: back) (first : ∀ x ∈ front, x.1 ≠ b ∧ x.2 ≠ i) (open' : s.openAwaits b = false) :
    s.takeHanded i f = f b { s with hl := { s.hl with handed := front ++ back } } := by
  have byInstr : s.hl.handed.find? (fun x => x.2 == i) = some (b, i) := by
    rw [h, List.find?_append, List.find?_eq_none.2 (fun x hx => by simpa using (first x hx).2)]; simp
  have byBlock : s.hl.handed.find? (fun x => x.1 == b) = some (b, i) := by
    rw [h, List.find?_append, List.find?_eq_none.2 (fun x hx => by simpa using (first x hx).1)]; simp
  have left : s.hl.handed.erase (b, i) = front ++ back := by
    rw [h, List.erase_append_right _ (fun hx => (first _ hx).1 rfl)]; simp
  have next : s.nextAt i = some b := by simp [State.nextAt, byInstr, byBlock, open']
  simp only [State.takeHanded, next, left]

/-- A block takes nothing that is not the first there. -/
theorem State.takeHanded_behind (i : Instr) (b : Block) (f : Block → State → State)
    (only : ∀ x ∈ s.hl.handed, x.2 = i → x.1 = b)
    (behind : (s.hl.handed.find? (fun x => x.1 == b)).map Prod.snd ≠ some i ∨ s.openAwaits b = true) :
    s.takeHanded i f = s := by
  unfold State.takeHanded State.nextAt
  cases h : s.hl.handed.find? (fun x => x.2 == i) with
  | none => rfl
  | some x =>
    obtain ⟨c, j⟩ := x
    have hj : j = i := by simpa using List.find?_some h
    have hc : c = b := only (c, j) (List.mem_of_find?_eq_some h) hj
    subst hc
    have : ((s.hl.handed.find? (fun x => x.1 == c)).any (fun x => x.2 == i) && !s.openAwaits c) = false := by
      rcases behind with hb | hb
      · cases g : s.hl.handed.find? (fun x => x.1 == c) with
        | none => rfl
        | some y =>
          have : (y.2 == i) = false := by simpa [g] using hb
          simp [this]
      · simp [hb]
    simp only [this, Bool.false_eq_true, if_false]

/-! ### Answering -/

theorem slots_filter_new (slots : List RequestSlot) (tag code : Byte) (h : ∀ r ∈ slots, r.tag ≠ tag) :
    (slots ++ [(⟨tag, code⟩ : RequestSlot)]).filter (fun r => r.tag != tag) = slots := by
  rw [List.filter_append, List.filter_eq_self.2 (by simpa using h)]
  simp

/-- HL's own reply to the request that has just been accepted: it joins the list and the slot is free again. `t` is any state
with the Host Link of the accepted request. -/
theorem State.reply_accepted (t : State) (tag code : Byte) (status : Status) (results : List Byte) (h : Accepts s tag)
    (hl : t.hl = (s.holding tag code).hl) :
    t.reply tag code status results
      = ({ t with hl := s.heard.hl } : State).hand (replyPacket tag code status results) := by
  have hs : t.hl.slots.filter (fun r => r.tag != tag) = s.hl.slots := by
    rw [hl]; exact slots_filter_new _ _ _ h.2.2.1
  unfold State.reply State.joinReply State.freeTag
  rw [show (replyPacket tag code status results).tag = tag from rfl, hs, hl]
  rfl

/-- HL's own reply to an accepted request that changed nothing. -/
theorem State.reply_holding (tag code : Byte) (status : Status) (results : List Byte) (h : Accepts s tag) :
    (s.holding tag code).reply tag code status results = s.replied tag code status results := by
  rw [State.reply_accepted s _ tag code status results h rfl]; rfl

/-- A block's reply to an accepted request that changed nothing. -/
theorem State.answer_holding (tag code : Byte) (status : Status) (results : List Byte) :
    (s.holding tag code).answer tag code status results = s.answered tag code status results := rfl

end Sys2Proof.Machine
end

