-- ==== Sys2Proof/Laws/Frames.lean ====
section
/-! SUPPORT. What the shared operations of the blocks leave unchanged: for each, one lemma per part of the state that it never
touches, so that a proof about a command skips over them without unfolding them. -/

-- One theorem at a time: hundreds of small ones at once start more threads than the memory limit holds.
set_option Elab.async false

namespace Sys2Proof.Machine

variable (s : State)

/-! ### enterSending -/
@[simp] theorem State.enterSending_pending (n : LineNo) : (s.enterSending n).pending = s.pending := by
  unfold State.enterSending
  dsimp only
  repeat' split
  all_goals simp
@[simp] theorem State.enterSending_time (n : LineNo) : (s.enterSending n).time = s.time := by
  unfold State.enterSending
  dsimp only
  repeat' split
  all_goals simp
@[simp] theorem State.enterSending_re (n : LineNo) : (s.enterSending n).re = s.re := by
  unfold State.enterSending
  dsimp only
  repeat' split
  all_goals simp
@[simp] theorem State.enterSending_queues (n : LineNo) : (s.enterSending n).queues = s.queues := by
  unfold State.enterSending
  dsimp only
  repeat' split
  all_goals simp
@[simp] theorem State.enterSending_hl (n : LineNo) : (s.enterSending n).hl = s.hl := by
  unfold State.enterSending
  dsimp only
  repeat' split
  all_goals simp
@[simp] theorem State.enterSending_ru (n : LineNo) : (s.enterSending n).ru = s.ru := by
  unfold State.enterSending
  dsimp only
  repeat' split
  all_goals simp
@[simp] theorem State.enterSending_freeCount (n : LineNo) : (s.enterSending n).freeCount = s.freeCount := by
  unfold State.enterSending
  dsimp only
  repeat' split
  all_goals simp

/-! ### enterTurn -/
@[simp] theorem State.enterTurn_pending (n : LineNo) : (s.enterTurn n).pending = s.pending := by
  unfold State.enterTurn
  repeat' split
  all_goals simp
@[simp] theorem State.enterTurn_time (n : LineNo) : (s.enterTurn n).time = s.time := by
  unfold State.enterTurn
  repeat' split
  all_goals simp
@[simp] theorem State.enterTurn_re (n : LineNo) : (s.enterTurn n).re = s.re := by
  unfold State.enterTurn
  repeat' split
  all_goals simp
@[simp] theorem State.enterTurn_queues (n : LineNo) : (s.enterTurn n).queues = s.queues := by
  unfold State.enterTurn
  repeat' split
  all_goals simp
@[simp] theorem State.enterTurn_hl (n : LineNo) : (s.enterTurn n).hl = s.hl := by
  unfold State.enterTurn
  repeat' split
  all_goals simp
@[simp] theorem State.enterTurn_ru (n : LineNo) : (s.enterTurn n).ru = s.ru := by
  unfold State.enterTurn
  repeat' split
  all_goals simp
@[simp] theorem State.enterTurn_freeCount (n : LineNo) : (s.enterTurn n).freeCount = s.freeCount := by
  unfold State.enterTurn
  repeat' split
  all_goals simp

/-! ### takeUp -/
@[simp] theorem State.takeUp_pending (n : LineNo) : (s.takeUp n).pending = s.pending := by
  unfold State.takeUp
  repeat' split
  all_goals simp
@[simp] theorem State.takeUp_time (n : LineNo) : (s.takeUp n).time = s.time := by
  unfold State.takeUp
  repeat' split
  all_goals simp
@[simp] theorem State.takeUp_re (n : LineNo) : (s.takeUp n).re = s.re := by
  unfold State.takeUp
  repeat' split
  all_goals simp
@[simp] theorem State.takeUp_queues (n : LineNo) : (s.takeUp n).queues = s.queues := by
  unfold State.takeUp
  repeat' split
  all_goals simp
@[simp] theorem State.takeUp_hl (n : LineNo) : (s.takeUp n).hl = s.hl := by
  unfold State.takeUp
  repeat' split
  all_goals simp
@[simp] theorem State.takeUp_ru (n : LineNo) : (s.takeUp n).ru = s.ru := by
  unfold State.takeUp
  repeat' split
  all_goals simp
@[simp] theorem State.takeUp_freeCount (n : LineNo) : (s.takeUp n).freeCount = s.freeCount := by
  unfold State.takeUp
  repeat' split
  all_goals simp

/-! ### turnFreed -/
@[simp] theorem State.turnFreed_pending (n : LineNo) : (s.turnFreed n).pending = s.pending := by
  unfold State.turnFreed
  repeat' split
  all_goals simp
@[simp] theorem State.turnFreed_time (n : LineNo) : (s.turnFreed n).time = s.time := by
  unfold State.turnFreed
  repeat' split
  all_goals simp
@[simp] theorem State.turnFreed_re (n : LineNo) : (s.turnFreed n).re = s.re := by
  unfold State.turnFreed
  repeat' split
  all_goals simp
@[simp] theorem State.turnFreed_queues (n : LineNo) : (s.turnFreed n).queues = s.queues := by
  unfold State.turnFreed
  repeat' split
  all_goals simp
@[simp] theorem State.turnFreed_hl (n : LineNo) : (s.turnFreed n).hl = s.hl := by
  unfold State.turnFreed
  repeat' split
  all_goals simp
@[simp] theorem State.turnFreed_ru (n : LineNo) : (s.turnFreed n).ru = s.ru := by
  unfold State.turnFreed
  repeat' split
  all_goals simp
@[simp] theorem State.turnFreed_freeCount (n : LineNo) : (s.turnFreed n).freeCount = s.freeCount := by
  unfold State.turnFreed
  repeat' split
  all_goals simp

/-! ### addEntry -/
@[simp] theorem State.addEntry_pending (n : LineNo) (e : TxEntry) : (s.addEntry n e).pending = s.pending := by
  unfold State.addEntry
  dsimp only
  repeat' split
  all_goals simp
@[simp] theorem State.addEntry_time (n : LineNo) (e : TxEntry) : (s.addEntry n e).time = s.time := by
  unfold State.addEntry
  dsimp only
  repeat' split
  all_goals simp
@[simp] theorem State.addEntry_re (n : LineNo) (e : TxEntry) : (s.addEntry n e).re = s.re := by
  unfold State.addEntry
  dsimp only
  repeat' split
  all_goals simp
@[simp] theorem State.addEntry_queues (n : LineNo) (e : TxEntry) : (s.addEntry n e).queues = s.queues := by
  unfold State.addEntry
  dsimp only
  repeat' split
  all_goals simp
@[simp] theorem State.addEntry_hl (n : LineNo) (e : TxEntry) : (s.addEntry n e).hl = s.hl := by
  unfold State.addEntry
  dsimp only
  repeat' split
  all_goals simp
@[simp] theorem State.addEntry_ru (n : LineNo) (e : TxEntry) : (s.addEntry n e).ru = s.ru := by
  unfold State.addEntry
  dsimp only
  repeat' split
  all_goals simp
@[simp] theorem State.addEntry_freeCount (n : LineNo) (e : TxEntry) : (s.addEntry n e).freeCount = s.freeCount := by
  unfold State.addEntry
  dsimp only
  repeat' split
  all_goals simp

/-! ### txDone -/
@[simp] theorem State.txDone_pending (n : LineNo) (e : TxEntry) (r : TxResult) : (s.txDone n e r).pending = s.pending := by
  unfold State.txDone
  repeat' split
  all_goals simp
@[simp] theorem State.txDone_time (n : LineNo) (e : TxEntry) (r : TxResult) : (s.txDone n e r).time = s.time := by
  unfold State.txDone
  repeat' split
  all_goals simp
@[simp] theorem State.txDone_units (n : LineNo) (e : TxEntry) (r : TxResult) : (s.txDone n e r).units = s.units := by
  unfold State.txDone
  repeat' split
  all_goals simp
@[simp] theorem State.txDone_pool (n : LineNo) (e : TxEntry) (r : TxResult) : (s.txDone n e r).pool = s.pool := by
  unfold State.txDone
  repeat' split
  all_goals simp
@[simp] theorem State.txDone_re (n : LineNo) (e : TxEntry) (r : TxResult) : (s.txDone n e r).re = s.re := by
  unfold State.txDone
  repeat' split
  all_goals simp
@[simp] theorem State.txDone_queues (n : LineNo) (e : TxEntry) (r : TxResult) : (s.txDone n e r).queues = s.queues := by
  unfold State.txDone
  repeat' split
  all_goals simp
@[simp] theorem State.txDone_ports (n : LineNo) (e : TxEntry) (r : TxResult) : (s.txDone n e r).ports = s.ports := by
  unfold State.txDone
  repeat' split
  all_goals simp
@[simp] theorem State.txDone_hl (n : LineNo) (e : TxEntry) (r : TxResult) : (s.txDone n e r).hl = s.hl := by
  unfold State.txDone
  repeat' split
  all_goals simp
@[simp] theorem State.txDone_freeCount (n : LineNo) (e : TxEntry) (r : TxResult) : (s.txDone n e r).freeCount = s.freeCount := by
  unfold State.txDone
  repeat' split
  all_goals simp

/-! ### discardEntry -/
@[simp] theorem State.discardEntry_pending (n : LineNo) (e : TxEntry) : (State.discardEntry n s e).pending = s.pending := by simp [State.discardEntry, State.modTx]
@[simp] theorem State.discardEntry_time (n : LineNo) (e : TxEntry) : (State.discardEntry n s e).time = s.time := by simp [State.discardEntry, State.modTx]
@[simp] theorem State.discardEntry_units (n : LineNo) (e : TxEntry) : (State.discardEntry n s e).units = s.units := by simp [State.discardEntry, State.modTx]
@[simp] theorem State.discardEntry_re (n : LineNo) (e : TxEntry) : (State.discardEntry n s e).re = s.re := by simp [State.discardEntry, State.modTx]
@[simp] theorem State.discardEntry_queues (n : LineNo) (e : TxEntry) : (State.discardEntry n s e).queues = s.queues := by simp [State.discardEntry, State.modTx]
@[simp] theorem State.discardEntry_hl (n : LineNo) (e : TxEntry) : (State.discardEntry n s e).hl = s.hl := by simp [State.discardEntry, State.modTx]
@[simp] theorem State.discardEntry_freeCount (n : LineNo) (e : TxEntry) : (State.discardEntry n s e).freeCount = s.freeCount := by simp [State.discardEntry, State.modTx]

/-! ### discardEntries -/
@[simp] theorem State.discardEntries_pending (n : LineNo) (es : List TxEntry) : (es.foldl (State.discardEntry n) s).pending = s.pending := by
  induction es generalizing s with
  | nil => rfl
  | cons e es ih => simp [ih]
@[simp] theorem State.discardEntries_time (n : LineNo) (es : List TxEntry) : (es.foldl (State.discardEntry n) s).time = s.time := by
  induction es generalizing s with
  | nil => rfl
  | cons e es ih => simp [ih]
@[simp] theorem State.discardEntries_units (n : LineNo) (es : List TxEntry) : (es.foldl (State.discardEntry n) s).units = s.units := by
  induction es generalizing s with
  | nil => rfl
  | cons e es ih => simp [ih]
@[simp] theorem State.discardEntries_re (n : LineNo) (es : List TxEntry) : (es.foldl (State.discardEntry n) s).re = s.re := by
  induction es generalizing s with
  | nil => rfl
  | cons e es ih => simp [ih]
@[simp] theorem State.discardEntries_queues (n : LineNo) (es : List TxEntry) : (es.foldl (State.discardEntry n) s).queues = s.queues := by
  induction es generalizing s with
  | nil => rfl
  | cons e es ih => simp [ih]
@[simp] theorem State.discardEntries_hl (n : LineNo) (es : List TxEntry) : (es.foldl (State.discardEntry n) s).hl = s.hl := by
  induction es generalizing s with
  | nil => rfl
  | cons e es ih => simp [ih]
@[simp] theorem State.discardEntries_freeCount (n : LineNo) (es : List TxEntry) : (es.foldl (State.discardEntry n) s).freeCount = s.freeCount := by
  induction es generalizing s with
  | nil => rfl
  | cons e es ih => simp [ih]

/-! ### discardWaiting -/
@[simp] theorem State.discardWaiting_pending (n : LineNo) : (s.discardWaiting n).1.pending = s.pending := by
  unfold State.discardWaiting
  repeat' split
  all_goals simp
@[simp] theorem State.discardWaiting_time (n : LineNo) : (s.discardWaiting n).1.time = s.time := by
  unfold State.discardWaiting
  repeat' split
  all_goals simp
@[simp] theorem State.discardWaiting_units (n : LineNo) : (s.discardWaiting n).1.units = s.units := by
  unfold State.discardWaiting
  repeat' split
  all_goals simp
@[simp] theorem State.discardWaiting_re (n : LineNo) : (s.discardWaiting n).1.re = s.re := by
  unfold State.discardWaiting
  repeat' split
  all_goals simp
@[simp] theorem State.discardWaiting_queues (n : LineNo) : (s.discardWaiting n).1.queues = s.queues := by
  unfold State.discardWaiting
  repeat' split
  all_goals simp
@[simp] theorem State.discardWaiting_hl (n : LineNo) : (s.discardWaiting n).1.hl = s.hl := by
  unfold State.discardWaiting
  repeat' split
  all_goals simp
@[simp] theorem State.discardWaiting_freeCount (n : LineNo) : (s.discardWaiting n).1.freeCount = s.freeCount := by
  unfold State.discardWaiting
  repeat' split
  all_goals simp

/-! ### endTransmission -/
@[simp] theorem State.endTransmission_pending (n : LineNo) : (s.endTransmission n).pending = s.pending := by simp [State.endTransmission]
@[simp] theorem State.endTransmission_time (n : LineNo) : (s.endTransmission n).time = s.time := by simp [State.endTransmission]
@[simp] theorem State.endTransmission_pool (n : LineNo) : (s.endTransmission n).pool = s.pool := by simp [State.endTransmission]
@[simp] theorem State.endTransmission_re (n : LineNo) : (s.endTransmission n).re = s.re := by simp [State.endTransmission]
@[simp] theorem State.endTransmission_queues (n : LineNo) : (s.endTransmission n).queues = s.queues := by simp [State.endTransmission]
@[simp] theorem State.endTransmission_hl (n : LineNo) : (s.endTransmission n).hl = s.hl := by simp [State.endTransmission]
@[simp] theorem State.endTransmission_ru (n : LineNo) : (s.endTransmission n).ru = s.ru := by simp [State.endTransmission]
@[simp] theorem State.endTransmission_freeCount (n : LineNo) : (s.endTransmission n).freeCount = s.freeCount := by simp [State.endTransmission]

/-! ### cutQueue -/
@[simp] theorem State.cutQueue_pending (n : LineNo) : (s.cutQueue n).1.pending = s.pending := by
  have e := State.discardWaiting_pending s n
  unfold State.cutQueue State.modTx
  dsimp only
  repeat' split
  all_goals simp_all
@[simp] theorem State.cutQueue_time (n : LineNo) : (s.cutQueue n).1.time = s.time := by
  have e := State.discardWaiting_time s n
  unfold State.cutQueue State.modTx
  dsimp only
  repeat' split
  all_goals simp_all
@[simp] theorem State.cutQueue_re (n : LineNo) : (s.cutQueue n).1.re = s.re := by
  have e := State.discardWaiting_re s n
  unfold State.cutQueue State.modTx
  dsimp only
  repeat' split
  all_goals simp_all
@[simp] theorem State.cutQueue_queues (n : LineNo) : (s.cutQueue n).1.queues = s.queues := by
  have e := State.discardWaiting_queues s n
  unfold State.cutQueue State.modTx
  dsimp only
  repeat' split
  all_goals simp_all
@[simp] theorem State.cutQueue_hl (n : LineNo) : (s.cutQueue n).1.hl = s.hl := by
  have e := State.discardWaiting_hl s n
  unfold State.cutQueue State.modTx
  dsimp only
  repeat' split
  all_goals simp_all
@[simp] theorem State.cutQueue_freeCount (n : LineNo) : (s.cutQueue n).1.freeCount = s.freeCount := by
  have e := State.discardWaiting_freeCount s n
  unfold State.cutQueue State.modTx
  dsimp only
  repeat' split
  all_goals simp_all

/-! ### reformat -/
@[simp] theorem State.reformat_pending (n : LineNo) : (s.reformat n).pending = s.pending := by
  rcases h : s.atMark n with ⟨b, t⟩
  have e : t.pending = s.pending := by unfold State.atMark at h; split at h <;> cases h <;> rfl
  unfold State.reformat
  simp only [h]
  exact e
@[simp] theorem State.reformat_time (n : LineNo) : (s.reformat n).time = s.time := by
  rcases h : s.atMark n with ⟨b, t⟩
  have e : t.time = s.time := by unfold State.atMark at h; split at h <;> cases h <;> rfl
  unfold State.reformat
  simp only [h]
  exact e
@[simp] theorem State.reformat_units (n : LineNo) : (s.reformat n).units = s.units := by
  rcases h : s.atMark n with ⟨b, t⟩
  have e : t.units = s.units := by unfold State.atMark at h; split at h <;> cases h <;> rfl
  unfold State.reformat
  simp only [h]
  exact e
@[simp] theorem State.reformat_pool (n : LineNo) : (s.reformat n).pool = s.pool := by
  rcases h : s.atMark n with ⟨b, t⟩
  have e : t.pool = s.pool := by unfold State.atMark at h; split at h <;> cases h <;> rfl
  unfold State.reformat
  simp only [h]
  exact e
@[simp] theorem State.reformat_re (n : LineNo) : (s.reformat n).re = s.re := by
  rcases h : s.atMark n with ⟨b, t⟩
  have e : t.re = s.re := by unfold State.atMark at h; split at h <;> cases h <;> rfl
  unfold State.reformat
  simp only [h]
  exact e
@[simp] theorem State.reformat_queues (n : LineNo) : (s.reformat n).queues = s.queues := by
  rcases h : s.atMark n with ⟨b, t⟩
  have e : t.queues = s.queues := by unfold State.atMark at h; split at h <;> cases h <;> rfl
  unfold State.reformat
  simp only [h]
  exact e
@[simp] theorem State.reformat_hl (n : LineNo) : (s.reformat n).hl = s.hl := by
  rcases h : s.atMark n with ⟨b, t⟩
  have e : t.hl = s.hl := by unfold State.atMark at h; split at h <;> cases h <;> rfl
  unfold State.reformat
  simp only [h]
  exact e
@[simp] theorem State.reformat_ru (n : LineNo) : (s.reformat n).ru = s.ru := by
  rcases h : s.atMark n with ⟨b, t⟩
  have e : t.ru = s.ru := by unfold State.atMark at h; split at h <;> cases h <;> rfl
  unfold State.reformat
  simp only [h]
  exact e

/-! ### answerDrain -/
@[simp] theorem State.answerDrain_pending (r : Requester) (status : Status) (results : List Byte) : (s.answerDrain r status results).pending = s.pending := by
  unfold State.answerDrain
  repeat' split
  all_goals simp
@[simp] theorem State.answerDrain_time (r : Requester) (status : Status) (results : List Byte) : (s.answerDrain r status results).time = s.time := by
  unfold State.answerDrain
  repeat' split
  all_goals simp
@[simp] theorem State.answerDrain_units (r : Requester) (status : Status) (results : List Byte) : (s.answerDrain r status results).units = s.units := by
  unfold State.answerDrain
  repeat' split
  all_goals simp
@[simp] theorem State.answerDrain_pool (r : Requester) (status : Status) (results : List Byte) : (s.answerDrain r status results).pool = s.pool := by
  unfold State.answerDrain
  repeat' split
  all_goals simp
@[simp] theorem State.answerDrain_re (r : Requester) (status : Status) (results : List Byte) : (s.answerDrain r status results).re = s.re := by
  unfold State.answerDrain
  repeat' split
  all_goals simp
@[simp] theorem State.answerDrain_queues (r : Requester) (status : Status) (results : List Byte) : (s.answerDrain r status results).queues = s.queues := by
  unfold State.answerDrain
  repeat' split
  all_goals simp
@[simp] theorem State.answerDrain_ports (r : Requester) (status : Status) (results : List Byte) : (s.answerDrain r status results).ports = s.ports := by
  unfold State.answerDrain
  repeat' split
  all_goals simp
@[simp] theorem State.answerDrain_ru (r : Requester) (status : Status) (results : List Byte) : (s.answerDrain r status results).ru = s.ru := by
  unfold State.answerDrain
  repeat' split
  all_goals simp
@[simp] theorem State.answerDrain_freeCount (r : Requester) (status : Status) (results : List Byte) : (s.answerDrain r status results).freeCount = s.freeCount := by
  unfold State.answerDrain
  repeat' split
  all_goals simp

/-! ### endDrain -/
@[simp] theorem State.endDrain_pending (n : LineNo) : (s.endDrain n).pending = s.pending := by
  unfold State.endDrain
  repeat' split
  all_goals simp
@[simp] theorem State.endDrain_time (n : LineNo) : (s.endDrain n).time = s.time := by
  unfold State.endDrain
  repeat' split
  all_goals simp
@[simp] theorem State.endDrain_pool (n : LineNo) : (s.endDrain n).pool = s.pool := by
  unfold State.endDrain
  repeat' split
  all_goals simp
@[simp] theorem State.endDrain_re (n : LineNo) : (s.endDrain n).re = s.re := by
  unfold State.endDrain
  repeat' split
  all_goals simp
@[simp] theorem State.endDrain_queues (n : LineNo) : (s.endDrain n).queues = s.queues := by
  unfold State.endDrain
  repeat' split
  all_goals simp
@[simp] theorem State.endDrain_ru (n : LineNo) : (s.endDrain n).ru = s.ru := by
  unfold State.endDrain
  repeat' split
  all_goals simp

/-! ### cutDrain -/
@[simp] theorem State.cutDrain_pending (n : LineNo) : (s.cutDrain n).pending = s.pending := by
  unfold State.cutDrain
  dsimp only
  split <;> simp
@[simp] theorem State.cutDrain_time (n : LineNo) : (s.cutDrain n).time = s.time := by
  unfold State.cutDrain
  dsimp only
  split <;> simp
@[simp] theorem State.cutDrain_re (n : LineNo) : (s.cutDrain n).re = s.re := by
  unfold State.cutDrain
  dsimp only
  split <;> simp
@[simp] theorem State.cutDrain_queues (n : LineNo) : (s.cutDrain n).queues = s.queues := by
  unfold State.cutDrain
  dsimp only
  split <;> simp

/-! ### completeEntry -/
@[simp] theorem State.completeEntry_pending (n : LineNo) (e : TxEntry) (rest : List TxEntry) : (s.completeEntry n e rest).pending = s.pending := by
  unfold State.completeEntry
  dsimp only
  repeat' split
  all_goals simp
@[simp] theorem State.completeEntry_time (n : LineNo) (e : TxEntry) (rest : List TxEntry) : (s.completeEntry n e rest).time = s.time := by
  unfold State.completeEntry
  dsimp only
  repeat' split
  all_goals simp
@[simp] theorem State.completeEntry_re (n : LineNo) (e : TxEntry) (rest : List TxEntry) : (s.completeEntry n e rest).re = s.re := by
  unfold State.completeEntry
  dsimp only
  repeat' split
  all_goals simp
@[simp] theorem State.completeEntry_queues (n : LineNo) (e : TxEntry) (rest : List TxEntry) : (s.completeEntry n e rest).queues = s.queues := by
  unfold State.completeEntry
  dsimp only
  repeat' split
  all_goals simp

/-! ### endTrailing -/
@[simp] theorem State.endTrailing_pending (n : LineNo) : (s.endTrailing n).pending = s.pending := by
  unfold State.endTrailing
  dsimp only
  repeat' split
  all_goals simp
@[simp] theorem State.endTrailing_time (n : LineNo) : (s.endTrailing n).time = s.time := by
  unfold State.endTrailing
  dsimp only
  repeat' split
  all_goals simp
@[simp] theorem State.endTrailing_re (n : LineNo) : (s.endTrailing n).re = s.re := by
  unfold State.endTrailing
  dsimp only
  repeat' split
  all_goals simp
@[simp] theorem State.endTrailing_queues (n : LineNo) : (s.endTrailing n).queues = s.queues := by
  unfold State.endTrailing
  dsimp only
  repeat' split
  all_goals simp
@[simp] theorem State.endTrailing_ru (n : LineNo) : (s.endTrailing n).ru = s.ru := by
  unfold State.endTrailing
  dsimp only
  repeat' split
  all_goals simp

/-! ### characterSent -/
@[simp] theorem State.characterSent_pending (n : LineNo) : (s.characterSent n).pending = s.pending := by
  unfold State.characterSent State.modTx
  dsimp only
  repeat' split
  all_goals simp
@[simp] theorem State.characterSent_time (n : LineNo) : (s.characterSent n).time = s.time := by
  unfold State.characterSent State.modTx
  dsimp only
  repeat' split
  all_goals simp
@[simp] theorem State.characterSent_re (n : LineNo) : (s.characterSent n).re = s.re := by
  unfold State.characterSent State.modTx
  dsimp only
  repeat' split
  all_goals simp
@[simp] theorem State.characterSent_queues (n : LineNo) : (s.characterSent n).queues = s.queues := by
  unfold State.characterSent State.modTx
  dsimp only
  repeat' split
  all_goals simp

/-! ### offerForward -/
@[simp] theorem State.offerForward_pending (n : LineNo) (i : SlotNo) (x : RouteSource) : (s.offerForward n i x).1.pending = s.pending := by
  unfold State.offerForward State.modTx
  repeat' split
  all_goals simp
@[simp] theorem State.offerForward_time (n : LineNo) (i : SlotNo) (x : RouteSource) : (s.offerForward n i x).1.time = s.time := by
  unfold State.offerForward State.modTx
  repeat' split
  all_goals simp
@[simp] theorem State.offerForward_re (n : LineNo) (i : SlotNo) (x : RouteSource) : (s.offerForward n i x).1.re = s.re := by
  unfold State.offerForward State.modTx
  repeat' split
  all_goals simp
@[simp] theorem State.offerForward_queues (n : LineNo) (i : SlotNo) (x : RouteSource) : (s.offerForward n i x).1.queues = s.queues := by
  unfold State.offerForward State.modTx
  repeat' split
  all_goals simp
@[simp] theorem State.offerForward_hl (n : LineNo) (i : SlotNo) (x : RouteSource) : (s.offerForward n i x).1.hl = s.hl := by
  unfold State.offerForward State.modTx
  repeat' split
  all_goals simp
@[simp] theorem State.offerForward_freeCount (n : LineNo) (i : SlotNo) (x : RouteSource) : (s.offerForward n i x).1.freeCount = s.freeCount := by
  unfold State.offerForward State.modTx
  repeat' split
  all_goals simp

/-! ### claim -/
@[simp] theorem State.claim_pending (who : Claimant) (owner : Owner) (fill : Slot) : (s.claim who owner fill).2.pending = s.pending := by
  unfold State.claim
  repeat' split
  all_goals simp
@[simp] theorem State.claim_time (who : Claimant) (owner : Owner) (fill : Slot) : (s.claim who owner fill).2.time = s.time := by
  unfold State.claim
  repeat' split
  all_goals simp
@[simp] theorem State.claim_units (who : Claimant) (owner : Owner) (fill : Slot) : (s.claim who owner fill).2.units = s.units := by
  unfold State.claim
  repeat' split
  all_goals simp
@[simp] theorem State.claim_re (who : Claimant) (owner : Owner) (fill : Slot) : (s.claim who owner fill).2.re = s.re := by
  unfold State.claim
  repeat' split
  all_goals simp
@[simp] theorem State.claim_queues (who : Claimant) (owner : Owner) (fill : Slot) : (s.claim who owner fill).2.queues = s.queues := by
  unfold State.claim
  repeat' split
  all_goals simp
@[simp] theorem State.claim_ports (who : Claimant) (owner : Owner) (fill : Slot) : (s.claim who owner fill).2.ports = s.ports := by
  unfold State.claim
  repeat' split
  all_goals simp
@[simp] theorem State.claim_hl (who : Claimant) (owner : Owner) (fill : Slot) : (s.claim who owner fill).2.hl = s.hl := by
  unfold State.claim
  repeat' split
  all_goals simp
@[simp] theorem State.claim_ru (who : Claimant) (owner : Owner) (fill : Slot) : (s.claim who owner fill).2.ru = s.ru := by
  unfold State.claim
  repeat' split
  all_goals simp
@[simp] theorem State.claim_freeCount (who : Claimant) (owner : Owner) (fill : Slot) : (s.claim who owner fill).2.freeCount = s.freeCount := by
  unfold State.claim
  repeat' split
  all_goals simp

/-! ### closeKept -/
@[simp] theorem State.closeKept_pending (n : LineNo) (p : Plan) (f : FrameInProgress) (r : CloseReason) : (s.closeKept n p f r).pending = s.pending := rfl
@[simp] theorem State.closeKept_time (n : LineNo) (p : Plan) (f : FrameInProgress) (r : CloseReason) : (s.closeKept n p f r).time = s.time := rfl
@[simp] theorem State.closeKept_queues (n : LineNo) (p : Plan) (f : FrameInProgress) (r : CloseReason) : (s.closeKept n p f r).queues = s.queues := rfl
@[simp] theorem State.closeKept_ports (n : LineNo) (p : Plan) (f : FrameInProgress) (r : CloseReason) : (s.closeKept n p f r).ports = s.ports := rfl
@[simp] theorem State.closeKept_hl (n : LineNo) (p : Plan) (f : FrameInProgress) (r : CloseReason) : (s.closeKept n p f r).hl = s.hl := rfl
@[simp] theorem State.closeKept_ru (n : LineNo) (p : Plan) (f : FrameInProgress) (r : CloseReason) : (s.closeKept n p f r).ru = s.ru := rfl
@[simp] theorem State.closeKept_freeCount (n : LineNo) (p : Plan) (f : FrameInProgress) (r : CloseReason) : (s.closeKept n p f r).freeCount = s.freeCount := rfl

/-! ### rearm -/
@[simp] theorem State.rearm_pending (n : LineNo) (b : Bool) : (s.rearm n b).pending = s.pending := by
  unfold State.rearm
  dsimp only
  repeat' split
  all_goals simp
@[simp] theorem State.rearm_time (n : LineNo) (b : Bool) : (s.rearm n b).time = s.time := by
  unfold State.rearm
  dsimp only
  repeat' split
  all_goals simp
@[simp] theorem State.rearm_pool (n : LineNo) (b : Bool) : (s.rearm n b).pool = s.pool := by
  unfold State.rearm
  dsimp only
  repeat' split
  all_goals simp
@[simp] theorem State.rearm_re (n : LineNo) (b : Bool) : (s.rearm n b).re = s.re := by
  unfold State.rearm
  dsimp only
  repeat' split
  all_goals simp
@[simp] theorem State.rearm_queues (n : LineNo) (b : Bool) : (s.rearm n b).queues = s.queues := by
  unfold State.rearm
  dsimp only
  repeat' split
  all_goals simp
@[simp] theorem State.rearm_ports (n : LineNo) (b : Bool) : (s.rearm n b).ports = s.ports := by
  unfold State.rearm
  dsimp only
  repeat' split
  all_goals simp
@[simp] theorem State.rearm_hl (n : LineNo) (b : Bool) : (s.rearm n b).hl = s.hl := by
  unfold State.rearm
  dsimp only
  repeat' split
  all_goals simp
@[simp] theorem State.rearm_freeCount (n : LineNo) (b : Bool) : (s.rearm n b).freeCount = s.freeCount := by
  unfold State.rearm
  dsimp only
  repeat' split
  all_goals simp

/-! ### closeFrame -/
@[simp] theorem State.closeFrame_pending (n : LineNo) (r : CloseReason) : (s.closeFrame n r).pending = s.pending := by
  unfold State.closeFrame
  repeat' split
  all_goals simp
@[simp] theorem State.closeFrame_time (n : LineNo) (r : CloseReason) : (s.closeFrame n r).time = s.time := by
  unfold State.closeFrame
  repeat' split
  all_goals simp
@[simp] theorem State.closeFrame_queues (n : LineNo) (r : CloseReason) : (s.closeFrame n r).queues = s.queues := by
  unfold State.closeFrame
  repeat' split
  all_goals simp
@[simp] theorem State.closeFrame_ports (n : LineNo) (r : CloseReason) : (s.closeFrame n r).ports = s.ports := by
  unfold State.closeFrame
  repeat' split
  all_goals simp
@[simp] theorem State.closeFrame_hl (n : LineNo) (r : CloseReason) : (s.closeFrame n r).hl = s.hl := by
  unfold State.closeFrame
  repeat' split
  all_goals simp
@[simp] theorem State.closeFrame_freeCount (n : LineNo) (r : CloseReason) : (s.closeFrame n r).freeCount = s.freeCount := by
  unfold State.closeFrame
  repeat' split
  all_goals simp

/-! ### closeError -/
@[simp] theorem State.closeError_pending (n : LineNo) : (s.closeError n).pending = s.pending := by
  unfold State.closeError
  repeat' split
  all_goals simp
@[simp] theorem State.closeError_time (n : LineNo) : (s.closeError n).time = s.time := by
  unfold State.closeError
  repeat' split
  all_goals simp
@[simp] theorem State.closeError_re (n : LineNo) : (s.closeError n).re = s.re := by
  unfold State.closeError
  repeat' split
  all_goals simp
@[simp] theorem State.closeError_queues (n : LineNo) : (s.closeError n).queues = s.queues := by
  unfold State.closeError
  repeat' split
  all_goals simp
@[simp] theorem State.closeError_ports (n : LineNo) : (s.closeError n).ports = s.ports := by
  unfold State.closeError
  repeat' split
  all_goals simp
@[simp] theorem State.closeError_hl (n : LineNo) : (s.closeError n).hl = s.hl := by
  unfold State.closeError
  repeat' split
  all_goals simp
@[simp] theorem State.closeError_freeCount (n : LineNo) : (s.closeError n).freeCount = s.freeCount := by
  unfold State.closeError
  repeat' split
  all_goals simp

/-! ### closeSkip -/
@[simp] theorem State.closeSkip_pending (n : LineNo) (b : Bool) : (s.closeSkip n b).pending = s.pending := by simp [State.closeSkip]
@[simp] theorem State.closeSkip_time (n : LineNo) (b : Bool) : (s.closeSkip n b).time = s.time := by simp [State.closeSkip]
@[simp] theorem State.closeSkip_pool (n : LineNo) (b : Bool) : (s.closeSkip n b).pool = s.pool := by simp [State.closeSkip]
@[simp] theorem State.closeSkip_re (n : LineNo) (b : Bool) : (s.closeSkip n b).re = s.re := by simp [State.closeSkip]
@[simp] theorem State.closeSkip_queues (n : LineNo) (b : Bool) : (s.closeSkip n b).queues = s.queues := by simp [State.closeSkip]
@[simp] theorem State.closeSkip_ports (n : LineNo) (b : Bool) : (s.closeSkip n b).ports = s.ports := by simp [State.closeSkip]
@[simp] theorem State.closeSkip_hl (n : LineNo) (b : Bool) : (s.closeSkip n b).hl = s.hl := by simp [State.closeSkip]
@[simp] theorem State.closeSkip_freeCount (n : LineNo) (b : Bool) : (s.closeSkip n b).freeCount = s.freeCount := by simp [State.closeSkip]

/-! ### openFrame -/
@[simp] theorem State.openFrame_pending (n : LineNo) (p : Plan) (v : Byte) : (s.openFrame n p v).pending = s.pending := by
  rcases h : s.claim .capture (.line n) { state := .collecting, data := [v] } with ⟨r, t⟩
  have e : t.pending = s.pending := by
    have := State.claim_pending s .capture (.line n) { state := .collecting, data := [v] }
    rwa [h] at this
  unfold State.openFrame
  simp only [h]
  cases r <;> dsimp only <;> split <;> simp [e]
@[simp] theorem State.openFrame_time (n : LineNo) (p : Plan) (v : Byte) : (s.openFrame n p v).time = s.time := by
  rcases h : s.claim .capture (.line n) { state := .collecting, data := [v] } with ⟨r, t⟩
  have e : t.time = s.time := by
    have := State.claim_time s .capture (.line n) { state := .collecting, data := [v] }
    rwa [h] at this
  unfold State.openFrame
  simp only [h]
  cases r <;> dsimp only <;> split <;> simp [e]
@[simp] theorem State.openFrame_queues (n : LineNo) (p : Plan) (v : Byte) : (s.openFrame n p v).queues = s.queues := by
  rcases h : s.claim .capture (.line n) { state := .collecting, data := [v] } with ⟨r, t⟩
  have e : t.queues = s.queues := by
    have := State.claim_queues s .capture (.line n) { state := .collecting, data := [v] }
    rwa [h] at this
  unfold State.openFrame
  simp only [h]
  cases r <;> dsimp only <;> split <;> simp [e]
@[simp] theorem State.openFrame_ports (n : LineNo) (p : Plan) (v : Byte) : (s.openFrame n p v).ports = s.ports := by
  rcases h : s.claim .capture (.line n) { state := .collecting, data := [v] } with ⟨r, t⟩
  have e : t.ports = s.ports := by
    have := State.claim_ports s .capture (.line n) { state := .collecting, data := [v] }
    rwa [h] at this
  unfold State.openFrame
  simp only [h]
  cases r <;> dsimp only <;> split <;> simp [e]
@[simp] theorem State.openFrame_hl (n : LineNo) (p : Plan) (v : Byte) : (s.openFrame n p v).hl = s.hl := by
  rcases h : s.claim .capture (.line n) { state := .collecting, data := [v] } with ⟨r, t⟩
  have e : t.hl = s.hl := by
    have := State.claim_hl s .capture (.line n) { state := .collecting, data := [v] }
    rwa [h] at this
  unfold State.openFrame
  simp only [h]
  cases r <;> dsimp only <;> split <;> simp [e]
@[simp] theorem State.openFrame_freeCount (n : LineNo) (p : Plan) (v : Byte) : (s.openFrame n p v).freeCount = s.freeCount := by
  rcases h : s.claim .capture (.line n) { state := .collecting, data := [v] } with ⟨r, t⟩
  have e : t.freeCount = s.freeCount := by
    have := State.claim_freeCount s .capture (.line n) { state := .collecting, data := [v] }
    rwa [h] at this
  unfold State.openFrame
  simp only [h]
  cases r <;> dsimp only <;> split <;> simp [e]

/-! ### unitChar -/
@[simp] theorem State.unitChar_pending (n : LineNo) (v : Byte) (c : CharStatus) : (s.unitChar n v c).pending = s.pending := by
  unfold State.unitChar State.collect State.skipChar State.huntAnyChar State.huntLeadChar
  dsimp only
  repeat' split
  all_goals simp
@[simp] theorem State.unitChar_time (n : LineNo) (v : Byte) (c : CharStatus) : (s.unitChar n v c).time = s.time := by
  unfold State.unitChar State.collect State.skipChar State.huntAnyChar State.huntLeadChar
  dsimp only
  repeat' split
  all_goals simp
@[simp] theorem State.unitChar_queues (n : LineNo) (v : Byte) (c : CharStatus) : (s.unitChar n v c).queues = s.queues := by
  unfold State.unitChar State.collect State.skipChar State.huntAnyChar State.huntLeadChar
  dsimp only
  repeat' split
  all_goals simp
@[simp] theorem State.unitChar_hl (n : LineNo) (v : Byte) (c : CharStatus) : (s.unitChar n v c).hl = s.hl := by
  unfold State.unitChar State.collect State.skipChar State.huntAnyChar State.huntLeadChar
  dsimp only
  repeat' split
  all_goals simp
@[simp] theorem State.unitChar_freeCount (n : LineNo) (v : Byte) (c : CharStatus) : (s.unitChar n v c).freeCount = s.freeCount := by
  unfold State.unitChar State.collect State.skipChar State.huntAnyChar State.huntLeadChar
  dsimp only
  repeat' split
  all_goals simp

/-! ### unitBreak -/
@[simp] theorem State.unitBreak_pending (n : LineNo) : (s.unitBreak n).pending = s.pending := by
  unfold State.unitBreak State.huntBreakDetected
  dsimp only
  repeat' split
  all_goals simp
@[simp] theorem State.unitBreak_time (n : LineNo) : (s.unitBreak n).time = s.time := by
  unfold State.unitBreak State.huntBreakDetected
  dsimp only
  repeat' split
  all_goals simp
@[simp] theorem State.unitBreak_queues (n : LineNo) : (s.unitBreak n).queues = s.queues := by
  unfold State.unitBreak State.huntBreakDetected
  dsimp only
  repeat' split
  all_goals simp
@[simp] theorem State.unitBreak_hl (n : LineNo) : (s.unitBreak n).hl = s.hl := by
  unfold State.unitBreak State.huntBreakDetected
  dsimp only
  repeat' split
  all_goals simp
@[simp] theorem State.unitBreak_freeCount (n : LineNo) : (s.unitBreak n).freeCount = s.freeCount := by
  unfold State.unitBreak State.huntBreakDetected
  dsimp only
  repeat' split
  all_goals simp

/-! ### unitReconfigured -/
@[simp] theorem State.unitReconfigured_pending (n : LineNo) : (s.unitReconfigured n).pending = s.pending := by
  unfold State.unitReconfigured
  repeat' split
  all_goals simp
@[simp] theorem State.unitReconfigured_time (n : LineNo) : (s.unitReconfigured n).time = s.time := by
  unfold State.unitReconfigured
  repeat' split
  all_goals simp
@[simp] theorem State.unitReconfigured_queues (n : LineNo) : (s.unitReconfigured n).queues = s.queues := by
  unfold State.unitReconfigured
  repeat' split
  all_goals simp
@[simp] theorem State.unitReconfigured_ports (n : LineNo) : (s.unitReconfigured n).ports = s.ports := by
  unfold State.unitReconfigured
  repeat' split
  all_goals simp
@[simp] theorem State.unitReconfigured_hl (n : LineNo) : (s.unitReconfigured n).hl = s.hl := by
  unfold State.unitReconfigured
  repeat' split
  all_goals simp
@[simp] theorem State.unitReconfigured_ru (n : LineNo) : (s.unitReconfigured n).ru = s.ru := by
  unfold State.unitReconfigured
  repeat' split
  all_goals simp
@[simp] theorem State.unitReconfigured_freeCount (n : LineNo) : (s.unitReconfigured n).freeCount = s.freeCount := by
  unfold State.unitReconfigured
  repeat' split
  all_goals simp

/-! ### unitOff -/
@[simp] theorem State.unitOff_pending (n : LineNo) : (s.unitOff n).pending = s.pending := by
  unfold State.unitOff
  repeat' split
  all_goals simp
@[simp] theorem State.unitOff_time (n : LineNo) : (s.unitOff n).time = s.time := by
  unfold State.unitOff
  repeat' split
  all_goals simp
@[simp] theorem State.unitOff_re (n : LineNo) : (s.unitOff n).re = s.re := by
  unfold State.unitOff
  repeat' split
  all_goals simp
@[simp] theorem State.unitOff_queues (n : LineNo) : (s.unitOff n).queues = s.queues := by
  unfold State.unitOff
  repeat' split
  all_goals simp
@[simp] theorem State.unitOff_ports (n : LineNo) : (s.unitOff n).ports = s.ports := by
  unfold State.unitOff
  repeat' split
  all_goals simp
@[simp] theorem State.unitOff_hl (n : LineNo) : (s.unitOff n).hl = s.hl := by
  unfold State.unitOff
  repeat' split
  all_goals simp
@[simp] theorem State.unitOff_ru (n : LineNo) : (s.unitOff n).ru = s.ru := by
  unfold State.unitOff
  repeat' split
  all_goals simp
@[simp] theorem State.unitOff_freeCount (n : LineNo) : (s.unitOff n).freeCount = s.freeCount := by
  unfold State.unitOff
  repeat' split
  all_goals simp

/-! ### lendHead -/
@[simp] theorem State.lendHead_pending (q : QueueNo) (i : SlotNo) (rest : List SlotNo) : (s.lendHead q i rest).pending = s.pending := rfl
@[simp] theorem State.lendHead_time (q : QueueNo) (i : SlotNo) (rest : List SlotNo) : (s.lendHead q i rest).time = s.time := rfl
@[simp] theorem State.lendHead_units (q : QueueNo) (i : SlotNo) (rest : List SlotNo) : (s.lendHead q i rest).units = s.units := rfl
@[simp] theorem State.lendHead_re (q : QueueNo) (i : SlotNo) (rest : List SlotNo) : (s.lendHead q i rest).re = s.re := rfl
@[simp] theorem State.lendHead_ports (q : QueueNo) (i : SlotNo) (rest : List SlotNo) : (s.lendHead q i rest).ports = s.ports := rfl
@[simp] theorem State.lendHead_hl (q : QueueNo) (i : SlotNo) (rest : List SlotNo) : (s.lendHead q i rest).hl = s.hl := rfl
@[simp] theorem State.lendHead_ru (q : QueueNo) (i : SlotNo) (rest : List SlotNo) : (s.lendHead q i rest).ru = s.ru := rfl
@[simp] theorem State.lendHead_freeCount (q : QueueNo) (i : SlotNo) (rest : List SlotNo) : (s.lendHead q i rest).freeCount = s.freeCount := rfl

/-! ### endHeld -/
@[simp] theorem State.endHeld_pending (q : QueueNo) (h : HeldFetch) (status : Status) : (s.endHeld q h status).pending = s.pending := by simp [State.endHeld]
@[simp] theorem State.endHeld_time (q : QueueNo) (h : HeldFetch) (status : Status) : (s.endHeld q h status).time = s.time := by simp [State.endHeld]
@[simp] theorem State.endHeld_units (q : QueueNo) (h : HeldFetch) (status : Status) : (s.endHeld q h status).units = s.units := by simp [State.endHeld]
@[simp] theorem State.endHeld_pool (q : QueueNo) (h : HeldFetch) (status : Status) : (s.endHeld q h status).pool = s.pool := by simp [State.endHeld]
@[simp] theorem State.endHeld_re (q : QueueNo) (h : HeldFetch) (status : Status) : (s.endHeld q h status).re = s.re := by simp [State.endHeld]
@[simp] theorem State.endHeld_ports (q : QueueNo) (h : HeldFetch) (status : Status) : (s.endHeld q h status).ports = s.ports := by simp [State.endHeld]
@[simp] theorem State.endHeld_ru (q : QueueNo) (h : HeldFetch) (status : Status) : (s.endHeld q h status).ru = s.ru := by simp [State.endHeld]
@[simp] theorem State.endHeld_freeCount (q : QueueNo) (h : HeldFetch) (status : Status) : (s.endHeld q h status).freeCount = s.freeCount := by simp [State.endHeld]

/-! ### lendLoop -/
@[simp] theorem State.lendLoop_pending (q : QueueNo) (fuel used : Nat) (lent : List SlotNo) : (State.lendLoop q fuel used lent s).2.pending = s.pending := by
  induction fuel generalizing s used lent with
  | zero => rfl
  | succ fuel ih =>
    unfold State.lendLoop
    repeat' split
    all_goals simp [ih]
@[simp] theorem State.lendLoop_time (q : QueueNo) (fuel used : Nat) (lent : List SlotNo) : (State.lendLoop q fuel used lent s).2.time = s.time := by
  induction fuel generalizing s used lent with
  | zero => rfl
  | succ fuel ih =>
    unfold State.lendLoop
    repeat' split
    all_goals simp [ih]
@[simp] theorem State.lendLoop_units (q : QueueNo) (fuel used : Nat) (lent : List SlotNo) : (State.lendLoop q fuel used lent s).2.units = s.units := by
  induction fuel generalizing s used lent with
  | zero => rfl
  | succ fuel ih =>
    unfold State.lendLoop
    repeat' split
    all_goals simp [ih]
@[simp] theorem State.lendLoop_re (q : QueueNo) (fuel used : Nat) (lent : List SlotNo) : (State.lendLoop q fuel used lent s).2.re = s.re := by
  induction fuel generalizing s used lent with
  | zero => rfl
  | succ fuel ih =>
    unfold State.lendLoop
    repeat' split
    all_goals simp [ih]
@[simp] theorem State.lendLoop_ports (q : QueueNo) (fuel used : Nat) (lent : List SlotNo) : (State.lendLoop q fuel used lent s).2.ports = s.ports := by
  induction fuel generalizing s used lent with
  | zero => rfl
  | succ fuel ih =>
    unfold State.lendLoop
    repeat' split
    all_goals simp [ih]
@[simp] theorem State.lendLoop_hl (q : QueueNo) (fuel used : Nat) (lent : List SlotNo) : (State.lendLoop q fuel used lent s).2.hl = s.hl := by
  induction fuel generalizing s used lent with
  | zero => rfl
  | succ fuel ih =>
    unfold State.lendLoop
    repeat' split
    all_goals simp [ih]
@[simp] theorem State.lendLoop_ru (q : QueueNo) (fuel used : Nat) (lent : List SlotNo) : (State.lendLoop q fuel used lent s).2.ru = s.ru := by
  induction fuel generalizing s used lent with
  | zero => rfl
  | succ fuel ih =>
    unfold State.lendLoop
    repeat' split
    all_goals simp [ih]
@[simp] theorem State.lendLoop_freeCount (q : QueueNo) (fuel used : Nat) (lent : List SlotNo) : (State.lendLoop q fuel used lent s).2.freeCount = s.freeCount := by
  induction fuel generalizing s used lent with
  | zero => rfl
  | succ fuel ih =>
    unfold State.lendLoop
    repeat' split
    all_goals simp [ih]

/-! ### lendReply -/
@[simp] theorem State.lendReply_pending (q : QueueNo) (tag : Byte) (max : Nat) : (s.lendReply q tag max).pending = s.pending := by
  show ((State.lendLoop q max 0 [] s).2.answer _ _ _ _).pending = _
  simp
@[simp] theorem State.lendReply_time (q : QueueNo) (tag : Byte) (max : Nat) : (s.lendReply q tag max).time = s.time := by
  show ((State.lendLoop q max 0 [] s).2.answer _ _ _ _).time = _
  simp
@[simp] theorem State.lendReply_units (q : QueueNo) (tag : Byte) (max : Nat) : (s.lendReply q tag max).units = s.units := by
  show ((State.lendLoop q max 0 [] s).2.answer _ _ _ _).units = _
  simp
@[simp] theorem State.lendReply_re (q : QueueNo) (tag : Byte) (max : Nat) : (s.lendReply q tag max).re = s.re := by
  show ((State.lendLoop q max 0 [] s).2.answer _ _ _ _).re = _
  simp
@[simp] theorem State.lendReply_ports (q : QueueNo) (tag : Byte) (max : Nat) : (s.lendReply q tag max).ports = s.ports := by
  show ((State.lendLoop q max 0 [] s).2.answer _ _ _ _).ports = _
  simp
@[simp] theorem State.lendReply_ru (q : QueueNo) (tag : Byte) (max : Nat) : (s.lendReply q tag max).ru = s.ru := by
  show ((State.lendLoop q max 0 [] s).2.answer _ _ _ _).ru = _
  simp
@[simp] theorem State.lendReply_freeCount (q : QueueNo) (tag : Byte) (max : Nat) : (s.lendReply q tag max).freeCount = s.freeCount := by
  show ((State.lendLoop q max 0 [] s).2.answer _ _ _ _).freeCount = _
  simp

/-! ### answerHeld -/
@[simp] theorem State.answerHeld_pending (q : QueueNo) (h : HeldFetch) : (s.answerHeld q h).pending = s.pending := by simp [State.answerHeld]
@[simp] theorem State.answerHeld_time (q : QueueNo) (h : HeldFetch) : (s.answerHeld q h).time = s.time := by simp [State.answerHeld]
@[simp] theorem State.answerHeld_units (q : QueueNo) (h : HeldFetch) : (s.answerHeld q h).units = s.units := by simp [State.answerHeld]
@[simp] theorem State.answerHeld_re (q : QueueNo) (h : HeldFetch) : (s.answerHeld q h).re = s.re := by simp [State.answerHeld]
@[simp] theorem State.answerHeld_ports (q : QueueNo) (h : HeldFetch) : (s.answerHeld q h).ports = s.ports := by simp [State.answerHeld]
@[simp] theorem State.answerHeld_ru (q : QueueNo) (h : HeldFetch) : (s.answerHeld q h).ru = s.ru := by simp [State.answerHeld]
@[simp] theorem State.answerHeld_freeCount (q : QueueNo) (h : HeldFetch) : (s.answerHeld q h).freeCount = s.freeCount := by simp [State.answerHeld]

/-! ### afterPlacement -/
@[simp] theorem State.afterPlacement_pending (q : QueueNo) (b : Bool) : (s.afterPlacement q b).pending = s.pending := by
  unfold State.afterPlacement
  repeat' split
  all_goals simp
@[simp] theorem State.afterPlacement_time (q : QueueNo) (b : Bool) : (s.afterPlacement q b).time = s.time := by
  unfold State.afterPlacement
  repeat' split
  all_goals simp
@[simp] theorem State.afterPlacement_units (q : QueueNo) (b : Bool) : (s.afterPlacement q b).units = s.units := by
  unfold State.afterPlacement
  repeat' split
  all_goals simp
@[simp] theorem State.afterPlacement_re (q : QueueNo) (b : Bool) : (s.afterPlacement q b).re = s.re := by
  unfold State.afterPlacement
  repeat' split
  all_goals simp
@[simp] theorem State.afterPlacement_ports (q : QueueNo) (b : Bool) : (s.afterPlacement q b).ports = s.ports := by
  unfold State.afterPlacement
  repeat' split
  all_goals simp
@[simp] theorem State.afterPlacement_freeCount (q : QueueNo) (b : Bool) : (s.afterPlacement q b).freeCount = s.freeCount := by
  unfold State.afterPlacement
  repeat' split
  all_goals simp

/-! ### place -/
@[simp] theorem State.place_pending (q : QueueNo) (i : SlotNo) : (s.place q i).1.pending = s.pending := by
  unfold State.place
  repeat' split
  all_goals simp
@[simp] theorem State.place_time (q : QueueNo) (i : SlotNo) : (s.place q i).1.time = s.time := by
  unfold State.place
  repeat' split
  all_goals simp
@[simp] theorem State.place_units (q : QueueNo) (i : SlotNo) : (s.place q i).1.units = s.units := by
  unfold State.place
  repeat' split
  all_goals simp
@[simp] theorem State.place_re (q : QueueNo) (i : SlotNo) : (s.place q i).1.re = s.re := by
  unfold State.place
  repeat' split
  all_goals simp
@[simp] theorem State.place_ports (q : QueueNo) (i : SlotNo) : (s.place q i).1.ports = s.ports := by
  unfold State.place
  repeat' split
  all_goals simp
@[simp] theorem State.place_freeCount (q : QueueNo) (i : SlotNo) : (s.place q i).1.freeCount = s.freeCount := by
  unfold State.place
  repeat' split
  all_goals simp

/-! ### countMatch -/
@[simp] theorem State.countMatch_pending (i : RouteNo) : (s.countMatch i).pending = s.pending := by
  unfold State.countMatch
  repeat' split
  all_goals simp
@[simp] theorem State.countMatch_time (i : RouteNo) : (s.countMatch i).time = s.time := by
  unfold State.countMatch
  repeat' split
  all_goals simp
@[simp] theorem State.countMatch_units (i : RouteNo) : (s.countMatch i).units = s.units := by
  unfold State.countMatch
  repeat' split
  all_goals simp
@[simp] theorem State.countMatch_pool (i : RouteNo) : (s.countMatch i).pool = s.pool := by
  unfold State.countMatch
  repeat' split
  all_goals simp
@[simp] theorem State.countMatch_queues (i : RouteNo) : (s.countMatch i).queues = s.queues := by
  unfold State.countMatch
  repeat' split
  all_goals simp
@[simp] theorem State.countMatch_ports (i : RouteNo) : (s.countMatch i).ports = s.ports := by
  unfold State.countMatch
  repeat' split
  all_goals simp
@[simp] theorem State.countMatch_hl (i : RouteNo) : (s.countMatch i).hl = s.hl := by
  unfold State.countMatch
  repeat' split
  all_goals simp
@[simp] theorem State.countMatch_ru (i : RouteNo) : (s.countMatch i).ru = s.ru := by
  unfold State.countMatch
  repeat' split
  all_goals simp
@[simp] theorem State.countMatch_freeCount (i : RouteNo) : (s.countMatch i).freeCount = s.freeCount := by
  unfold State.countMatch
  repeat' split
  all_goals simp

/-! ### setOrigin -/
@[simp] theorem State.setOrigin_pending (i : SlotNo) (o : RouteOrigin) : (s.setOrigin i o).pending = s.pending := rfl
@[simp] theorem State.setOrigin_time (i : SlotNo) (o : RouteOrigin) : (s.setOrigin i o).time = s.time := rfl
@[simp] theorem State.setOrigin_units (i : SlotNo) (o : RouteOrigin) : (s.setOrigin i o).units = s.units := rfl
@[simp] theorem State.setOrigin_re (i : SlotNo) (o : RouteOrigin) : (s.setOrigin i o).re = s.re := rfl
@[simp] theorem State.setOrigin_queues (i : SlotNo) (o : RouteOrigin) : (s.setOrigin i o).queues = s.queues := rfl
@[simp] theorem State.setOrigin_ports (i : SlotNo) (o : RouteOrigin) : (s.setOrigin i o).ports = s.ports := rfl
@[simp] theorem State.setOrigin_hl (i : SlotNo) (o : RouteOrigin) : (s.setOrigin i o).hl = s.hl := rfl
@[simp] theorem State.setOrigin_ru (i : SlotNo) (o : RouteOrigin) : (s.setOrigin i o).ru = s.ru := rfl
@[simp] theorem State.setOrigin_freeCount (i : SlotNo) (o : RouteOrigin) : (s.setOrigin i o).freeCount = s.freeCount := rfl

/-! ### applyRewrite -/
@[simp] theorem State.applyRewrite_pending (x : Resolved) (v : Option Half) : (s.applyRewrite x v).pending = s.pending := by
  unfold State.applyRewrite
  repeat' split
  all_goals simp
@[simp] theorem State.applyRewrite_time (x : Resolved) (v : Option Half) : (s.applyRewrite x v).time = s.time := by
  unfold State.applyRewrite
  repeat' split
  all_goals simp
@[simp] theorem State.applyRewrite_units (x : Resolved) (v : Option Half) : (s.applyRewrite x v).units = s.units := by
  unfold State.applyRewrite
  repeat' split
  all_goals simp
@[simp] theorem State.applyRewrite_re (x : Resolved) (v : Option Half) : (s.applyRewrite x v).re = s.re := by
  unfold State.applyRewrite
  repeat' split
  all_goals simp
@[simp] theorem State.applyRewrite_queues (x : Resolved) (v : Option Half) : (s.applyRewrite x v).queues = s.queues := by
  unfold State.applyRewrite
  repeat' split
  all_goals simp
@[simp] theorem State.applyRewrite_ports (x : Resolved) (v : Option Half) : (s.applyRewrite x v).ports = s.ports := by
  unfold State.applyRewrite
  repeat' split
  all_goals simp
@[simp] theorem State.applyRewrite_hl (x : Resolved) (v : Option Half) : (s.applyRewrite x v).hl = s.hl := by
  unfold State.applyRewrite
  repeat' split
  all_goals simp
@[simp] theorem State.applyRewrite_ru (x : Resolved) (v : Option Half) : (s.applyRewrite x v).ru = s.ru := by
  unfold State.applyRewrite
  repeat' split
  all_goals simp
@[simp] theorem State.applyRewrite_freeCount (x : Resolved) (v : Option Half) : (s.applyRewrite x v).freeCount = s.freeCount := by
  unfold State.applyRewrite
  repeat' split
  all_goals simp

/-! ### unpark -/
@[simp] theorem State.unpark_pending (k : Half) : (s.unpark k).pending = s.pending := rfl
@[simp] theorem State.unpark_time (k : Half) : (s.unpark k).time = s.time := rfl
@[simp] theorem State.unpark_units (k : Half) : (s.unpark k).units = s.units := rfl
@[simp] theorem State.unpark_pool (k : Half) : (s.unpark k).pool = s.pool := rfl
@[simp] theorem State.unpark_queues (k : Half) : (s.unpark k).queues = s.queues := rfl
@[simp] theorem State.unpark_ports (k : Half) : (s.unpark k).ports = s.ports := rfl
@[simp] theorem State.unpark_hl (k : Half) : (s.unpark k).hl = s.hl := rfl
@[simp] theorem State.unpark_ru (k : Half) : (s.unpark k).ru = s.ru := rfl
@[simp] theorem State.unpark_freeCount (k : Half) : (s.unpark k).freeCount = s.freeCount := rfl

/-! ### setReason -/
@[simp] theorem State.setReason_pending (k : Half) (r : ParkReason) : (s.setReason k r).pending = s.pending := rfl
@[simp] theorem State.setReason_time (k : Half) (r : ParkReason) : (s.setReason k r).time = s.time := rfl
@[simp] theorem State.setReason_units (k : Half) (r : ParkReason) : (s.setReason k r).units = s.units := rfl
@[simp] theorem State.setReason_pool (k : Half) (r : ParkReason) : (s.setReason k r).pool = s.pool := rfl
@[simp] theorem State.setReason_queues (k : Half) (r : ParkReason) : (s.setReason k r).queues = s.queues := rfl
@[simp] theorem State.setReason_ports (k : Half) (r : ParkReason) : (s.setReason k r).ports = s.ports := rfl
@[simp] theorem State.setReason_hl (k : Half) (r : ParkReason) : (s.setReason k r).hl = s.hl := rfl
@[simp] theorem State.setReason_ru (k : Half) (r : ParkReason) : (s.setReason k r).ru = s.ru := rfl
@[simp] theorem State.setReason_freeCount (k : Half) (r : ParkReason) : (s.setReason k r).freeCount = s.freeCount := rfl

/-! ### remark -/
@[simp] theorem State.remark_pending (f : ParkRecord → Bool) (r : ParkReason) : (s.remark f r).pending = s.pending := rfl
@[simp] theorem State.remark_time (f : ParkRecord → Bool) (r : ParkReason) : (s.remark f r).time = s.time := rfl
@[simp] theorem State.remark_units (f : ParkRecord → Bool) (r : ParkReason) : (s.remark f r).units = s.units := rfl
@[simp] theorem State.remark_pool (f : ParkRecord → Bool) (r : ParkReason) : (s.remark f r).pool = s.pool := rfl
@[simp] theorem State.remark_queues (f : ParkRecord → Bool) (r : ParkReason) : (s.remark f r).queues = s.queues := rfl
@[simp] theorem State.remark_ports (f : ParkRecord → Bool) (r : ParkReason) : (s.remark f r).ports = s.ports := rfl
@[simp] theorem State.remark_hl (f : ParkRecord → Bool) (r : ParkReason) : (s.remark f r).hl = s.hl := rfl
@[simp] theorem State.remark_ru (f : ParkRecord → Bool) (r : ParkReason) : (s.remark f r).ru = s.ru := rfl
@[simp] theorem State.remark_freeCount (f : ParkRecord → Bool) (r : ParkReason) : (s.remark f r).freeCount = s.freeCount := rfl

/-! ### reportParked -/
@[simp] theorem State.reportParked_pending (r : ParkRecord) : (s.reportParked r).pending = s.pending := by
  unfold State.reportParked
  repeat' split
  all_goals simp
@[simp] theorem State.reportParked_time (r : ParkRecord) : (s.reportParked r).time = s.time := by
  unfold State.reportParked
  repeat' split
  all_goals simp
@[simp] theorem State.reportParked_units (r : ParkRecord) : (s.reportParked r).units = s.units := by
  unfold State.reportParked
  repeat' split
  all_goals simp
@[simp] theorem State.reportParked_pool (r : ParkRecord) : (s.reportParked r).pool = s.pool := by
  unfold State.reportParked
  repeat' split
  all_goals simp
@[simp] theorem State.reportParked_re (r : ParkRecord) : (s.reportParked r).re = s.re := by
  unfold State.reportParked
  repeat' split
  all_goals simp
@[simp] theorem State.reportParked_queues (r : ParkRecord) : (s.reportParked r).queues = s.queues := by
  unfold State.reportParked
  repeat' split
  all_goals simp
@[simp] theorem State.reportParked_ports (r : ParkRecord) : (s.reportParked r).ports = s.ports := by
  unfold State.reportParked
  repeat' split
  all_goals simp
@[simp] theorem State.reportParked_hl (r : ParkRecord) : (s.reportParked r).hl = s.hl := by
  unfold State.reportParked
  repeat' split
  all_goals simp
@[simp] theorem State.reportParked_freeCount (r : ParkRecord) : (s.reportParked r).freeCount = s.freeCount := by
  unfold State.reportParked
  repeat' split
  all_goals simp

/-! ### refuse -/
@[simp] theorem State.refuse_pending (tag code : Byte) (status : Status) : (s.refuse tag code status).pending = s.pending := by
  unfold State.refuse
  repeat' split
  all_goals simp
@[simp] theorem State.refuse_time (tag code : Byte) (status : Status) : (s.refuse tag code status).time = s.time := by
  unfold State.refuse
  repeat' split
  all_goals simp
@[simp] theorem State.refuse_units (tag code : Byte) (status : Status) : (s.refuse tag code status).units = s.units := by
  unfold State.refuse
  repeat' split
  all_goals simp
@[simp] theorem State.refuse_pool (tag code : Byte) (status : Status) : (s.refuse tag code status).pool = s.pool := by
  unfold State.refuse
  repeat' split
  all_goals simp
@[simp] theorem State.refuse_re (tag code : Byte) (status : Status) : (s.refuse tag code status).re = s.re := by
  unfold State.refuse
  repeat' split
  all_goals simp
@[simp] theorem State.refuse_queues (tag code : Byte) (status : Status) : (s.refuse tag code status).queues = s.queues := by
  unfold State.refuse
  repeat' split
  all_goals simp
@[simp] theorem State.refuse_ports (tag code : Byte) (status : Status) : (s.refuse tag code status).ports = s.ports := by
  unfold State.refuse
  repeat' split
  all_goals simp
@[simp] theorem State.refuse_ru (tag code : Byte) (status : Status) : (s.refuse tag code status).ru = s.ru := by
  unfold State.refuse
  repeat' split
  all_goals simp
@[simp] theorem State.refuse_freeCount (tag code : Byte) (status : Status) : (s.refuse tag code status).freeCount = s.freeCount := by
  unfold State.refuse
  repeat' split
  all_goals simp

/-! ### notice -/
@[simp] theorem State.notice_pending (c : DiscardCause) : (s.notice c).pending = s.pending := by
  unfold State.notice
  repeat' split
  all_goals simp
@[simp] theorem State.notice_time (c : DiscardCause) : (s.notice c).time = s.time := by
  unfold State.notice
  repeat' split
  all_goals simp
@[simp] theorem State.notice_units (c : DiscardCause) : (s.notice c).units = s.units := by
  unfold State.notice
  repeat' split
  all_goals simp
@[simp] theorem State.notice_pool (c : DiscardCause) : (s.notice c).pool = s.pool := by
  unfold State.notice
  repeat' split
  all_goals simp
@[simp] theorem State.notice_re (c : DiscardCause) : (s.notice c).re = s.re := by
  unfold State.notice
  repeat' split
  all_goals simp
@[simp] theorem State.notice_queues (c : DiscardCause) : (s.notice c).queues = s.queues := by
  unfold State.notice
  repeat' split
  all_goals simp
@[simp] theorem State.notice_ports (c : DiscardCause) : (s.notice c).ports = s.ports := by
  unfold State.notice
  repeat' split
  all_goals simp
@[simp] theorem State.notice_ru (c : DiscardCause) : (s.notice c).ru = s.ru := by
  unfold State.notice
  repeat' split
  all_goals simp
@[simp] theorem State.notice_freeCount (c : DiscardCause) : (s.notice c).freeCount = s.freeCount := by
  unfold State.notice
  repeat' split
  all_goals simp

/-! ### settleRaised -/
@[simp] theorem State.settleRaised_pending (src : Source) (test : Raised → Bool) (left : Raised → Option Raised) : (s.settleRaised src test left).pending = s.pending := rfl
@[simp] theorem State.settleRaised_time (src : Source) (test : Raised → Bool) (left : Raised → Option Raised) : (s.settleRaised src test left).time = s.time := rfl
@[simp] theorem State.settleRaised_units (src : Source) (test : Raised → Bool) (left : Raised → Option Raised) : (s.settleRaised src test left).units = s.units := rfl
@[simp] theorem State.settleRaised_pool (src : Source) (test : Raised → Bool) (left : Raised → Option Raised) : (s.settleRaised src test left).pool = s.pool := rfl
@[simp] theorem State.settleRaised_re (src : Source) (test : Raised → Bool) (left : Raised → Option Raised) : (s.settleRaised src test left).re = s.re := rfl
@[simp] theorem State.settleRaised_queues (src : Source) (test : Raised → Bool) (left : Raised → Option Raised) : (s.settleRaised src test left).queues = s.queues := rfl
@[simp] theorem State.settleRaised_ports (src : Source) (test : Raised → Bool) (left : Raised → Option Raised) : (s.settleRaised src test left).ports = s.ports := rfl
@[simp] theorem State.settleRaised_hl (src : Source) (test : Raised → Bool) (left : Raised → Option Raised) : (s.settleRaised src test left).hl = s.hl := rfl
@[simp] theorem State.settleRaised_freeCount (src : Source) (test : Raised → Bool) (left : Raised → Option Raised) : (s.settleRaised src test left).freeCount = s.freeCount := rfl

/-! ### takenByRU -/
@[simp] theorem State.takenByRU_pending (src : Source) : (s.takenByRU src).pending = s.pending := rfl
@[simp] theorem State.takenByRU_time (src : Source) : (s.takenByRU src).time = s.time := rfl
@[simp] theorem State.takenByRU_units (src : Source) : (s.takenByRU src).units = s.units := rfl
@[simp] theorem State.takenByRU_pool (src : Source) : (s.takenByRU src).pool = s.pool := rfl
@[simp] theorem State.takenByRU_re (src : Source) : (s.takenByRU src).re = s.re := rfl
@[simp] theorem State.takenByRU_queues (src : Source) : (s.takenByRU src).queues = s.queues := rfl
@[simp] theorem State.takenByRU_ports (src : Source) : (s.takenByRU src).ports = s.ports := rfl
@[simp] theorem State.takenByRU_hl (src : Source) : (s.takenByRU src).hl = s.hl := rfl
@[simp] theorem State.takenByRU_freeCount (src : Source) : (s.takenByRU src).freeCount = s.freeCount := rfl

/-! ### countLineLoss -/
@[simp] theorem State.countLineLoss_pending (cause : LossCause) (n : LineNo) : (s.countLineLoss cause n).pending = s.pending := rfl
@[simp] theorem State.countLineLoss_time (cause : LossCause) (n : LineNo) : (s.countLineLoss cause n).time = s.time := rfl
@[simp] theorem State.countLineLoss_units (cause : LossCause) (n : LineNo) : (s.countLineLoss cause n).units = s.units := rfl
@[simp] theorem State.countLineLoss_pool (cause : LossCause) (n : LineNo) : (s.countLineLoss cause n).pool = s.pool := rfl
@[simp] theorem State.countLineLoss_re (cause : LossCause) (n : LineNo) : (s.countLineLoss cause n).re = s.re := rfl
@[simp] theorem State.countLineLoss_queues (cause : LossCause) (n : LineNo) : (s.countLineLoss cause n).queues = s.queues := rfl
@[simp] theorem State.countLineLoss_hl (cause : LossCause) (n : LineNo) : (s.countLineLoss cause n).hl = s.hl := rfl
@[simp] theorem State.countLineLoss_ru (cause : LossCause) (n : LineNo) : (s.countLineLoss cause n).ru = s.ru := rfl
@[simp] theorem State.countLineLoss_freeCount (cause : LossCause) (n : LineNo) : (s.countLineLoss cause n).freeCount = s.freeCount := rfl

/-! ### queueReport -/
@[simp] theorem State.queueReport_pending (r : Report) : (s.queueReport r).pending = s.pending := by simp [State.queueReport]
@[simp] theorem State.queueReport_time (r : Report) : (s.queueReport r).time = s.time := by simp [State.queueReport]
@[simp] theorem State.queueReport_units (r : Report) : (s.queueReport r).units = s.units := by simp [State.queueReport]
@[simp] theorem State.queueReport_pool (r : Report) : (s.queueReport r).pool = s.pool := by simp [State.queueReport]
@[simp] theorem State.queueReport_re (r : Report) : (s.queueReport r).re = s.re := by simp [State.queueReport]
@[simp] theorem State.queueReport_queues (r : Report) : (s.queueReport r).queues = s.queues := by simp [State.queueReport]
@[simp] theorem State.queueReport_ports (r : Report) : (s.queueReport r).ports = s.ports := by simp [State.queueReport]
@[simp] theorem State.queueReport_freeCount (r : Report) : (s.queueReport r).freeCount = s.freeCount := by simp [State.queueReport]

/-! ### takeReport -/
@[simp] theorem State.takeReport_pending (r : Report) : (s.takeReport r).1.pending = s.pending := by
  unfold State.takeReport
  dsimp only
  repeat' split
  all_goals simp
@[simp] theorem State.takeReport_time (r : Report) : (s.takeReport r).1.time = s.time := by
  unfold State.takeReport
  dsimp only
  repeat' split
  all_goals simp
@[simp] theorem State.takeReport_units (r : Report) : (s.takeReport r).1.units = s.units := by
  unfold State.takeReport
  dsimp only
  repeat' split
  all_goals simp
@[simp] theorem State.takeReport_pool (r : Report) : (s.takeReport r).1.pool = s.pool := by
  unfold State.takeReport
  dsimp only
  repeat' split
  all_goals simp
@[simp] theorem State.takeReport_re (r : Report) : (s.takeReport r).1.re = s.re := by
  unfold State.takeReport
  dsimp only
  repeat' split
  all_goals simp
@[simp] theorem State.takeReport_queues (r : Report) : (s.takeReport r).1.queues = s.queues := by
  unfold State.takeReport
  dsimp only
  repeat' split
  all_goals simp
@[simp] theorem State.takeReport_ports (r : Report) : (s.takeReport r).1.ports = s.ports := by
  unfold State.takeReport
  dsimp only
  repeat' split
  all_goals simp
@[simp] theorem State.takeReport_freeCount (r : Report) : (s.takeReport r).1.freeCount = s.freeCount := by
  unfold State.takeReport
  dsimp only
  repeat' split
  all_goals simp

/-! ### raiseLoss -/
@[simp] theorem State.raiseLoss_pending : s.raiseLoss.pending = s.pending := by
  have e := State.takeReport_pending s (.loss s.ru.losses)
  unfold State.raiseLoss
  dsimp only
  repeat' split
  all_goals first | rfl | exact e
@[simp] theorem State.raiseLoss_time : s.raiseLoss.time = s.time := by
  have e := State.takeReport_time s (.loss s.ru.losses)
  unfold State.raiseLoss
  dsimp only
  repeat' split
  all_goals first | rfl | exact e
@[simp] theorem State.raiseLoss_units : s.raiseLoss.units = s.units := by
  have e := State.takeReport_units s (.loss s.ru.losses)
  unfold State.raiseLoss
  dsimp only
  repeat' split
  all_goals first | rfl | exact e
@[simp] theorem State.raiseLoss_pool : s.raiseLoss.pool = s.pool := by
  have e := State.takeReport_pool s (.loss s.ru.losses)
  unfold State.raiseLoss
  dsimp only
  repeat' split
  all_goals first | rfl | exact e
@[simp] theorem State.raiseLoss_re : s.raiseLoss.re = s.re := by
  have e := State.takeReport_re s (.loss s.ru.losses)
  unfold State.raiseLoss
  dsimp only
  repeat' split
  all_goals first | rfl | exact e
@[simp] theorem State.raiseLoss_queues : s.raiseLoss.queues = s.queues := by
  have e := State.takeReport_queues s (.loss s.ru.losses)
  unfold State.raiseLoss
  dsimp only
  repeat' split
  all_goals first | rfl | exact e
@[simp] theorem State.raiseLoss_ports : s.raiseLoss.ports = s.ports := by
  have e := State.takeReport_ports s (.loss s.ru.losses)
  unfold State.raiseLoss
  dsimp only
  repeat' split
  all_goals first | rfl | exact e
@[simp] theorem State.raiseLoss_freeCount : s.raiseLoss.freeCount = s.freeCount := by
  have e := State.takeReport_freeCount s (.loss s.ru.losses)
  unfold State.raiseLoss
  dsimp only
  repeat' split
  all_goals first | rfl | exact e

/-! ### countLoss -/
@[simp] theorem State.countLoss_pending (cause : LossCause) : (s.countLoss cause).pending = s.pending := by simp [State.countLoss]
@[simp] theorem State.countLoss_time (cause : LossCause) : (s.countLoss cause).time = s.time := by simp [State.countLoss]
@[simp] theorem State.countLoss_units (cause : LossCause) : (s.countLoss cause).units = s.units := by simp [State.countLoss]
@[simp] theorem State.countLoss_pool (cause : LossCause) : (s.countLoss cause).pool = s.pool := by simp [State.countLoss]
@[simp] theorem State.countLoss_re (cause : LossCause) : (s.countLoss cause).re = s.re := by simp [State.countLoss]
@[simp] theorem State.countLoss_queues (cause : LossCause) : (s.countLoss cause).queues = s.queues := by simp [State.countLoss]
@[simp] theorem State.countLoss_ports (cause : LossCause) : (s.countLoss cause).ports = s.ports := by simp [State.countLoss]
@[simp] theorem State.countLoss_freeCount (cause : LossCause) : (s.countLoss cause).freeCount = s.freeCount := by simp [State.countLoss]

/-! ### setOpening -/
@[simp] theorem State.setOpening_pending (o : SessionOpening) : (s.setOpening o).pending = s.pending := by
  unfold State.setOpening
  dsimp only
  repeat' split
  all_goals simp
@[simp] theorem State.setOpening_time (o : SessionOpening) : (s.setOpening o).time = s.time := by
  unfold State.setOpening
  dsimp only
  repeat' split
  all_goals simp
@[simp] theorem State.setOpening_units (o : SessionOpening) : (s.setOpening o).units = s.units := by
  unfold State.setOpening
  dsimp only
  repeat' split
  all_goals simp
@[simp] theorem State.setOpening_pool (o : SessionOpening) : (s.setOpening o).pool = s.pool := by
  unfold State.setOpening
  dsimp only
  repeat' split
  all_goals simp
@[simp] theorem State.setOpening_re (o : SessionOpening) : (s.setOpening o).re = s.re := by
  unfold State.setOpening
  dsimp only
  repeat' split
  all_goals simp
@[simp] theorem State.setOpening_queues (o : SessionOpening) : (s.setOpening o).queues = s.queues := by
  unfold State.setOpening
  dsimp only
  repeat' split
  all_goals simp
@[simp] theorem State.setOpening_ports (o : SessionOpening) : (s.setOpening o).ports = s.ports := by
  unfold State.setOpening
  dsimp only
  repeat' split
  all_goals simp
@[simp] theorem State.setOpening_ru (o : SessionOpening) : (s.setOpening o).ru = s.ru := by
  unfold State.setOpening
  dsimp only
  repeat' split
  all_goals simp
@[simp] theorem State.setOpening_freeCount (o : SessionOpening) : (s.setOpening o).freeCount = s.freeCount := by
  unfold State.setOpening
  dsimp only
  repeat' split
  all_goals simp

/-! ### takeOpen -/
@[simp] theorem State.takeOpen_pending : s.takeOpen.pending = s.pending := by
  unfold State.takeOpen State.reportsSessionOpen
  repeat' split
  all_goals simp
@[simp] theorem State.takeOpen_time : s.takeOpen.time = s.time := by
  unfold State.takeOpen State.reportsSessionOpen
  repeat' split
  all_goals simp
@[simp] theorem State.takeOpen_units : s.takeOpen.units = s.units := by
  unfold State.takeOpen State.reportsSessionOpen
  repeat' split
  all_goals simp
@[simp] theorem State.takeOpen_pool : s.takeOpen.pool = s.pool := by
  unfold State.takeOpen State.reportsSessionOpen
  repeat' split
  all_goals simp
@[simp] theorem State.takeOpen_re : s.takeOpen.re = s.re := by
  unfold State.takeOpen State.reportsSessionOpen
  repeat' split
  all_goals simp
@[simp] theorem State.takeOpen_queues : s.takeOpen.queues = s.queues := by
  unfold State.takeOpen State.reportsSessionOpen
  repeat' split
  all_goals simp
@[simp] theorem State.takeOpen_ports : s.takeOpen.ports = s.ports := by
  unfold State.takeOpen State.reportsSessionOpen
  repeat' split
  all_goals simp
@[simp] theorem State.takeOpen_freeCount : s.takeOpen.freeCount = s.freeCount := by
  unfold State.takeOpen State.reportsSessionOpen
  repeat' split
  all_goals simp

/-! ### countParked -/
@[simp] theorem State.countParked_pending : s.countParked.pending = s.pending := by
  unfold State.countParked
  repeat' split
  all_goals simp
@[simp] theorem State.countParked_time : s.countParked.time = s.time := by
  unfold State.countParked
  repeat' split
  all_goals simp
@[simp] theorem State.countParked_units : s.countParked.units = s.units := by
  unfold State.countParked
  repeat' split
  all_goals simp
@[simp] theorem State.countParked_pool : s.countParked.pool = s.pool := by
  unfold State.countParked
  repeat' split
  all_goals simp
@[simp] theorem State.countParked_re : s.countParked.re = s.re := by
  unfold State.countParked
  repeat' split
  all_goals simp
@[simp] theorem State.countParked_queues : s.countParked.queues = s.queues := by
  unfold State.countParked
  repeat' split
  all_goals simp
@[simp] theorem State.countParked_ports : s.countParked.ports = s.ports := by
  unfold State.countParked
  repeat' split
  all_goals simp
@[simp] theorem State.countParked_ru : s.countParked.ru = s.ru := by
  unfold State.countParked
  repeat' split
  all_goals simp
@[simp] theorem State.countParked_freeCount : s.countParked.freeCount = s.freeCount := by
  unfold State.countParked
  repeat' split
  all_goals simp

/-! ### answerStats -/
@[simp] theorem State.answerStats_pending (tag : Byte) (x : Selector) (items : List Byte) : (s.answerStats tag x items).pending = s.pending := by simp [State.answerStats]
@[simp] theorem State.answerStats_time (tag : Byte) (x : Selector) (items : List Byte) : (s.answerStats tag x items).time = s.time := by simp [State.answerStats]
@[simp] theorem State.answerStats_units (tag : Byte) (x : Selector) (items : List Byte) : (s.answerStats tag x items).units = s.units := by simp [State.answerStats]
@[simp] theorem State.answerStats_pool (tag : Byte) (x : Selector) (items : List Byte) : (s.answerStats tag x items).pool = s.pool := by simp [State.answerStats]
@[simp] theorem State.answerStats_re (tag : Byte) (x : Selector) (items : List Byte) : (s.answerStats tag x items).re = s.re := by simp [State.answerStats]
@[simp] theorem State.answerStats_queues (tag : Byte) (x : Selector) (items : List Byte) : (s.answerStats tag x items).queues = s.queues := by simp [State.answerStats]
@[simp] theorem State.answerStats_ports (tag : Byte) (x : Selector) (items : List Byte) : (s.answerStats tag x items).ports = s.ports := by simp [State.answerStats]
@[simp] theorem State.answerStats_ru (tag : Byte) (x : Selector) (items : List Byte) : (s.answerStats tag x items).ru = s.ru := by simp [State.answerStats]
@[simp] theorem State.answerStats_freeCount (tag : Byte) (x : Selector) (items : List Byte) : (s.answerStats tag x items).freeCount = s.freeCount := by simp [State.answerStats]

/-! ### clearRead -/
@[simp] theorem State.clearRead_pending (x : BlockRead) : (s.clearRead x).pending = s.pending := by cases x <;> rfl
@[simp] theorem State.clearRead_time (x : BlockRead) : (s.clearRead x).time = s.time := by cases x <;> rfl
@[simp] theorem State.clearRead_hl (x : BlockRead) : (s.clearRead x).hl = s.hl := by cases x <;> rfl
@[simp] theorem State.clearRead_ru (x : BlockRead) : (s.clearRead x).ru = s.ru := by cases x <;> rfl
@[simp] theorem State.clearRead_freeCount (x : BlockRead) : (s.clearRead x).freeCount = s.freeCount := by cases x <;> rfl

/-! ### readBlock -/
@[simp] theorem State.readBlock_pending (r : StatsRead) : (s.readBlock r).pending = s.pending := by
  unfold State.readBlock
  dsimp only
  repeat' split
  all_goals simp
@[simp] theorem State.readBlock_time (r : StatsRead) : (s.readBlock r).time = s.time := by
  unfold State.readBlock
  dsimp only
  repeat' split
  all_goals simp
@[simp] theorem State.readBlock_freeCount (r : StatsRead) : (s.readBlock r).freeCount = s.freeCount := by
  unfold State.readBlock
  dsimp only
  repeat' split
  all_goals simp

end Sys2Proof.Machine
end

