-- ==== Sys2Proof/Laws/Ops.lean ====
section
/-! SUPPORT. What the shared operations do, each said once: numbers of R3, timers and elapsed time, claims, placements, offers
to a line, lookups and cascades, what the blocks have raised, the session open, and the reads of a STATS. The provers cite
these and do not unfold the operations. -/

-- One theorem at a time: hundreds of small ones at once start more threads than the memory limit holds.
set_option Elab.async false

namespace Sys2Proof.Machine

variable (s : State)

/-! ### Numbers (R3) -/

/-- The number after a number, as a natural number: 1 to 65535 in a ring. -/
theorem nextNumber_toNat (k : Half) (h : k ≠ 0) : (nextNumber k).toNat = k.toNat % 65535 + 1 := by
  have hk : k.toNat ≠ 0 := fun e => h (BitVec.eq_of_toNat_eq (by simpa using e))
  have lt := k.isLt
  unfold nextNumber
  split
  · next e => subst e; rfl
  · next e =>
    have : k.toNat ≠ 65535 := fun e' => e (BitVec.eq_of_toNat_eq (by simpa using e'))
    have one : (1 : Half).toNat = 1 := rfl
    rw [BitVec.toNat_add, one]
    omega

theorem nextNumber_ne_zero (k : Half) : nextNumber k ≠ 0 := by
  unfold nextNumber
  split
  · decide
  · next e => intro h; apply e; bv_omega

theorem freshNumber_ne_zero (used : List Half) (start : Half) (fuel : Nat) (h : start ≠ 0) :
    freshNumber used start fuel ≠ 0 := by
  induction fuel generalizing start with
  | zero => exact h
  | succ fuel ih =>
    unfold freshNumber
    split
    · exact ih _ (nextNumber_ne_zero _)
    · exact h

/-- A number issued from a counter that is not 0 is not 0. -/
theorem issueNumber_ne_zero (used : List Half) (start : Half) (h : start ≠ 0) : issueNumber used start ≠ 0 :=
  freshNumber_ne_zero used start _ h

/-- The counter itself is issued where it is not in use. -/
theorem issueNumber_start (used : List Half) (start : Half) (h : start ∉ used) : issueNumber used start = start := by
  unfold issueNumber
  cases used.length with
  | zero => rfl
  | succ fuel => simp [freshNumber, h]

/-- A search that fails has passed `fuel + 1` numbers in a row, all of them in use. -/
theorem freshNumber_mem_passed (used : List Half) (start : Half) (fuel : Nat)
    (h : freshNumber used start fuel ∈ used) : ∀ k ≤ fuel, nextNumber^[k] start ∈ used := by
  induction fuel generalizing start with
  | zero => intro k hk; obtain rfl : k = 0 := by omega
            exact h
  | succ fuel ih =>
    unfold freshNumber at h
    split at h
    · next hs =>
      intro k hk
      cases k with
      | zero => simpa using hs
      | succ k => exact ih _ h k (by omega)
    · next hs => exact absurd h (by simpa using hs)

theorem nextNumber_iterate_toNat (start : Half) (h : start ≠ 0) (k : Nat) :
    (nextNumber^[k] start).toNat = (start.toNat - 1 + k) % 65535 + 1 ∧ nextNumber^[k] start ≠ 0 := by
  have h0 : start.toNat ≠ 0 := fun e => h (BitVec.eq_of_toNat_eq (by simpa using e))
  have lt := start.isLt
  induction k with
  | zero => exact ⟨by simp only [Function.iterate_zero, id_eq]; omega, h⟩
  | succ k ih =>
    rw [Function.iterate_succ_apply']
    refine ⟨?_, nextNumber_ne_zero _⟩
    rw [nextNumber_toNat _ ih.2, ih.1]
    omega

/-- The number issued is not in use (R77, R95, R113). -/
theorem issueNumber_fresh (used : List Half) (start : Half) (h : start ≠ 0) (room : used.length < 65535) :
    issueNumber used start ∉ used := by
  intro hm
  have all := freshNumber_mem_passed used start _ hm
  have inj : ((List.range (used.length + 1)).map (fun k => nextNumber^[k] start)).Nodup := by
    refine List.Nodup.map_on ?_ List.nodup_range
    intro i hi j hj e
    have e' := congrArg BitVec.toNat e
    rw [(nextNumber_iterate_toNat start h i).1, (nextNumber_iterate_toNat start h j).1] at e'
    simp only [List.mem_range] at hi hj
    omega
  have sub : (List.range (used.length + 1)).map (fun k => nextNumber^[k] start) ⊆ used := by
    intro x hx
    obtain ⟨k, hk, rfl⟩ := List.mem_map.1 hx
    exact all k (by simpa [Nat.lt_succ_iff] using hk)
  have := (inj.subperm sub).length_le
  simp at this

/-! ### Elapsed time -/

theorem mapVector_get {α β : Type} {n : Nat} (f : α → β) (v : Vector α n) (i : Fin n) : (mapVector f v)[i] = f v[i] := by
  simp [mapVector]

@[simp] theorem State.elapse_time (k : Nat) : (s.elapse k).time = s.time + BitVec.ofNat 32 k := rfl
@[simp] theorem State.elapse_pending (k : Nat) : (s.elapse k).pending = s.pending := rfl
@[simp] theorem State.elapse_pool (k : Nat) : (s.elapse k).pool = s.pool := rfl
@[simp] theorem State.elapse_ru (k : Nat) : (s.elapse k).ru = s.ru := rfl
@[simp] theorem State.elapse_slot (k : Nat) (i : SlotNo) : (s.elapse k).slot i = s.slot i := rfl
@[simp] theorem State.elapse_route (k : Nat) (i : RouteNo) : (s.elapse k).route i = s.route i := rfl
@[simp] theorem State.elapse_slots (k : Nat) : (s.elapse k).hl.slots = s.hl.slots := rfl
@[simp] theorem State.elapse_outgoing (k : Nat) : (s.elapse k).outgoing = s.outgoing := rfl
@[simp] theorem State.elapse_unit (k : Nat) (n : LineNo) : (s.elapse k).unit n = (s.unit n).pass k := mapVector_get _ _ n
@[simp] theorem State.elapse_port (k : Nat) (n : LineNo) : (s.elapse k).port n = (s.port n).pass k := mapVector_get _ _ n
@[simp] theorem State.elapse_queue (k : Nat) (q : QueueNo) : (s.elapse k).queue q = (s.queue q).pass k := mapVector_get _ _ q

/-- What taking an expiry does: it acts once its timer runs and its units have passed, and else only time has passed. -/
theorem State.expire_cases (after : Nat) (timer : State → Option Timer) (act : State → State) :
    (∃ t, timer (s.pass after) = some t ∧ t.wait = 0 ∧ s.expire after timer act = act (s.pass after))
      ∨ ((∀ t, timer (s.pass after) = some t → t.wait ≠ 0) ∧ s.expire after timer act = s.pass after) := by
  unfold State.expire
  dsimp only
  cases h : timer (s.pass after) with
  | none => exact .inr ⟨by simp, by simp⟩
  | some t =>
    by_cases w : t.wait = 0
    · exact .inl ⟨t, rfl, w, by simp [Timer.due, w]⟩
    · exact .inr ⟨fun u hu => by cases hu; exact w, by simp [Timer.due, w]⟩

@[simp] theorem State.pass_time (k : Nat) : (s.pass k).time = s.time + BitVec.ofNat 32 (s.room k) := rfl
@[simp] theorem State.pass_pending (k : Nat) : (s.pass k).pending = s.pending := rfl
@[simp] theorem State.pass_pool (k : Nat) : (s.pass k).pool = s.pool := rfl
@[simp] theorem State.pass_ru (k : Nat) : (s.pass k).ru = s.ru := rfl
@[simp] theorem State.pass_slot (k : Nat) (i : SlotNo) : (s.pass k).slot i = s.slot i := rfl
@[simp] theorem State.pass_route (k : Nat) (i : RouteNo) : (s.pass k).route i = s.route i := rfl
@[simp] theorem State.pass_slots (k : Nat) : (s.pass k).hl.slots = s.hl.slots := rfl
@[simp] theorem State.pass_outgoing (k : Nat) : (s.pass k).outgoing = s.outgoing := rfl
@[simp] theorem State.pass_unit (k : Nat) (n : LineNo) : (s.pass k).unit n = (s.unit n).pass (s.room k) := mapVector_get _ _ n
@[simp] theorem State.pass_port (k : Nat) (n : LineNo) : (s.pass k).port n = (s.port n).pass (s.room k) := mapVector_get _ _ n
@[simp] theorem State.pass_queue (k : Nat) (q : QueueNo) : (s.pass k).queue q = (s.queue q).pass (s.room k) := mapVector_get _ _ q

@[simp] theorem Timer.start_wait (n micros : Nat) : (Timer.start n micros).wait = n * micros := rfl
@[simp] theorem Timer.start_grace (n micros : Nat) : (Timer.start n micros).grace = micros := rfl
@[simp] theorem Timer.pass_wait (k : Nat) (t : Timer) : (t.pass k).wait = t.wait - k := rfl
@[simp] theorem Timer.pass_grace (k : Nat) (t : Timer) : (t.pass k).grace = t.grace - (k - t.wait) := rfl

/-! ### Claims (R36) -/

theorem State.firstFree_some {i : SlotNo} (h : s.firstFree = some i) : (s.slot i).state = .free := by
  simpa using List.find?_some h

theorem State.firstFree_none (h : s.firstFree = none) (i : SlotNo) : (s.slot i).state ≠ .free := by
  have := List.find?_eq_none.1 h i (List.mem_finRange i)
  simpa using this

/-- What a claim answers: a refusal that counts itself and changes nothing else, or a slot that was FREE, filled and
charged. -/
theorem State.claim_cases (who : Claimant) (owner : Owner) (fill : Slot) :
    (s.quotaOf owner ≤ s.charge owner
        ∧ s.claim who owner fill = (.quota, { s with pool := { s.pool with counters :=
            { s.pool.counters with refusedQuota := satInc s.pool.counters.refusedQuota } } }))
      ∨ (s.charge owner < s.quotaOf owner ∧ (∀ i, (s.slot i).state ≠ .free)
        ∧ s.claim who owner fill = (.noSlot, { s with pool := { s.pool with counters :=
            { s.pool.counters with refusedNoSlot := satInc s.pool.counters.refusedNoSlot } } }))
      ∨ ∃ i, s.charge owner < s.quotaOf owner ∧ s.firstFree = some i ∧ (s.slot i).state = .free
        ∧ s.claim who owner fill = (.granted i, { s with pool := { s.pool with
            slots := s.pool.slots.set i { fill with owner := some owner }
            counters := s.pool.counters.grant who (s.freeSlots - 1) } }) := by
  unfold State.claim
  split
  · next hq =>
    split
    · next h => exact .inr (.inl ⟨hq, s.firstFree_none h, rfl⟩)
    · next i h => exact .inr (.inr ⟨i, hq, h, s.firstFree_some h, rfl⟩)
  · next hq => exact .inl ⟨by omega, rfl⟩

/-! ### Placements (R96, R97) -/

/-- What a placement answers: the frame stands at the tail of the queue, and the held fetch is answered or QUEUE_READY
considered; or it is dropped as QUEUE_FULL. -/
theorem State.place_cases (q : QueueNo) (i : SlotNo) :
    ((s.queue q).count < (s.queue q).capacity
        ∧ s.place q i = (((s.modSlot i (fun x => { x with
            state := .queued, record := { x.record with deliveryNumber := 0 } })).modQueue q (fun d => { d with
              waiting := d.waiting ++ [i], counters := { d.counters with placed := satInc d.counters.placed } })).afterPlacement
            q (s.queue q).waiting.isEmpty, true))
      ∨ ((s.queue q).capacity ≤ (s.queue q).count
        ∧ s.place q i = ((((s.lose .qm .queueFull (s.slot i).record.line).freeSlot i).modQueue q (fun d => { d with
            counters := { d.counters with dropped := satInc d.counters.dropped } })), false)) := by
  unfold State.place
  split
  · next h => exact .inl ⟨h, rfl⟩
  · next h => exact .inr ⟨by omega, rfl⟩

/-- With no held fetch and notify not armed, nothing follows a placement. -/
theorem State.afterPlacement_quiet (q : QueueNo) (b : Bool) (held : (s.queue q).held = none)
    (armed : (s.queue q).armed = false) : s.afterPlacement q b = s := by
  simp [State.afterPlacement, held, armed]

/-! ### Offers to a line (R122) -/

/-- What an offer to a line answers: an entry at the tail of the queue of an ACTIVE line with room, or a drop as
FORWARD_BLOCKED. -/
theorem State.offerForward_cases (n : LineNo) (i : SlotNo) (source : RouteSource) :
    (((s.port n).lineState = .active ∧ (s.port n).txQueue.length < Config.txEntries)
        ∧ s.offerForward n i source = (((s.slotTo i .txQueued).modTx n (fun c => { c with
            forwardedPlaced := satInc c.forwardedPlaced })).addEntry n ⟨i, .route source, 0⟩, true))
      ∨ (¬((s.port n).lineState = .active ∧ (s.port n).txQueue.length < Config.txEntries)
        ∧ s.offerForward n i source
          = ((s.lose (.lp n) .forwardBlocked (s.slot i).record.line).freeSlot i, false)) := by
  unfold State.offerForward
  split
  · next h => exact .inl ⟨h, rfl⟩
  · next h => exact .inr ⟨h, rfl⟩

/-! ### Lookups and cascades (R70, R86) -/

/-- A lookup finds an in-use entry that matches. -/
theorem State.lookup_some {key : Half} {width : KeyWidth} {d : Domain} {i : RouteNo}
    (h : s.lookup key width d = some i) : ∃ e, s.route i = some e ∧ e.serves key width d = true := by
  have := List.find?_some h
  unfold State.servesAt at this
  split at this
  · next e he => exact ⟨e, he, this⟩
  · cases this

/-- A lookup that finds nothing: no entry matches. -/
theorem State.lookup_none {key : Half} {width : KeyWidth} {d : Domain} (h : s.lookup key width d = none) (i : RouteNo) :
    s.servesAt i key width d = false := by
  have := List.find?_eq_none.1 h i (List.mem_finRange i)
  simpa using this

/-- A group with no parked frame left has no cascade. -/
theorem State.cascade_empty (r : ParkRecord) (h : s.oldestOf r.line r.width r.key = none) : s.cascade r = (s, 0) := by
  unfold State.cascade State.cascadeLoop
  simp [h]

/-- An oldest frame of a group is parked and of the group. -/
theorem State.oldestOf_some {line : LineNo} {width : KeyWidth} {key : Half} {r : ParkRecord}
    (h : s.oldestOf line width key = some r) : r ∈ s.re.parks ∧ r.inGroup line width key = true := by
  unfold State.oldestOf at h
  exact ⟨List.mem_of_find?_eq_some h, by simpa using List.find?_some h⟩

/-! ### What the blocks have raised (R161, R167) -/

/-- The taker takes the source's first item that it has not taken; the items around it stay where they are. -/
theorem settleFirst_split (src : Source) (test : Raised → Bool) (left : Raised → Option Raised)
    (front back : List (Source × Raised)) (x : Raised) (hx : test x = true)
    (h : ∀ y ∈ front, y.1 = src → test y.2 = false) :
    settleFirst src test left (front ++ (src, x) :: back)
      = front ++ (left x).toList.map (fun r => (src, r)) ++ back := by
  induction front with
  | nil => simp [settleFirst, hx]
  | cons y front ih =>
    have hy : ¬(y.1 == src && test y.2) = true := by
      intro c
      simp only [Bool.and_eq_true, beq_iff_eq] at c
      exact absurd c.2 (by simp [h y (List.mem_cons_self ..) c.1])
    simp [settleFirst, hy, ih fun z hz => h z (List.mem_cons_of_mem _ hz)]

/-- What the source raised first of what the taker has not taken. -/
theorem State.firstRaised_split {src : Source} {test : Raised → Bool} {front back : List (Source × Raised)} {x : Raised}
    (e : s.ru.inbox = front ++ (src, x) :: back) (hx : test x = true) (h : ∀ y ∈ front, y.1 = src → test y.2 = false) :
    s.firstRaised src test = some x := by
  unfold State.firstRaised
  rw [e, List.find?_append, List.find?_eq_none.2]
  · simp [hx]
  · intro y hy c
    simp only [Bool.and_eq_true, beq_iff_eq] at c
    exact absurd c.2 (by simp [h y hy c.1])

/-- What RU does with a report (R162): nothing with reporting off, a count of the lost where the queue is full, or a place in
the queue and a copy for HL. -/
theorem State.takeReport_cases (r : Report) :
    (s.ru.reporting = false ∧ s.takeReport r = (s, false))
      ∨ (s.ru.reporting = true ∧ Config.reportPlaces ≤ s.ru.queue.length
        ∧ s.takeReport r = ({ s with ru := { s.ru with lost := satInc s.ru.lost } }, false))
      ∨ (s.ru.reporting = true ∧ s.ru.queue.length < Config.reportPlaces ∧ s.takeReport r = (s.queueReport r, true)) := by
  unfold State.takeReport
  cases hr : s.ru.reporting with
  | false => simp
  | true =>
    by_cases h : Config.reportPlaces ≤ s.ru.queue.length
    · simp [h]
    · simp [h, Nat.lt_of_not_le h]

/-! ### Breaks and the pre-quiet timer (R115) -/

/-- A break that was handed on holds the pre-quiet timer while it is in progress, whatever the free value (log 16). -/
@[simp] theorem LinePort.heldByBreak_of_heard {p : LinePort} (h : p.breakDeaf = false) : p.heldByBreak = p.breakInProgress := by
  simp [LinePort.heldByBreak, LinePort.breakCounts, h]

/-- With no break in progress nothing holds the pre-quiet timer. -/
@[simp] theorem LinePort.heldByBreak_of_none {p : LinePort} (h : p.breakInProgress = false) : p.heldByBreak = false := by
  simp [LinePort.heldByBreak, h]

/-- The end of the line's own transmission clears the flag (R119). -/
@[simp] theorem CaptureUnit.endSending_lineSending (u : CaptureUnit) : u.endSending.lineSending = false := by
  unfold CaptureUnit.endSending CaptureUnit.requiet CaptureUnit.startQuiet
  repeat' split
  all_goals simp_all

/-- The line-sending flag after a switch OFF is clear (R4, R28). -/
@[simp] theorem State.unitOff_lineSending (n : LineNo) : ((s.unitOff n).unit n).lineSending = false := by
  unfold State.unitOff
  dsimp only
  repeat' split
  all_goals simp [CaptureUnit.lineOff]

/-! ### The session open (R154) -/

/-- What follows as more of a session open is known: the reply once RU has taken it and RE has counted, and else it goes on. -/
theorem State.setOpening_cases (o : SessionOpening) :
    (∃ parked, o.reportsTaken = true ∧ o.parked = some parked
        ∧ s.setOpening o = ({ s with hl := { s.hl with opening := none } } : State).reply o.tag 0x01 .ok
            ([s.hl.cause.code] ++ le32 o.takenAt ++ [byteOf parked, flagByte o.ended] ++ capacityBytes))
      ∨ ((o.reportsTaken = false ∨ o.parked = none)
        ∧ s.setOpening o = { s with hl := { s.hl with opening := some o } }) := by
  unfold State.setOpening
  cases hr : o.reportsTaken <;> cases hp : o.parked <;> simp

/-- No session open waits for RU. -/
theorem State.takeOpen_of_none (h : s.openAwaitsRU = false) : s.takeOpen = s := by
  unfold State.openAwaitsRU at h
  unfold State.takeOpen
  cases ho : s.hl.opening with
  | none => rfl
  | some o => simp_all

/-- A session open waits for RU, which takes it. -/
theorem State.takeOpen_of_some {o : SessionOpening} (h : s.hl.opening = some o) (hr : o.reportsTaken = false) :
    s.takeOpen = s.reportsSessionOpen.setOpening { o with reportsTaken := true } := by
  simp [State.takeOpen, h, hr]

/-- No OPEN waits for RE. -/
theorem State.countParked_of_none (h : s.openAwaitsRE = false) : s.countParked = s := by
  unfold State.openAwaitsRE at h
  unfold State.countParked
  cases ho : s.hl.opening with
  | none => rfl
  | some o => simp [ho] at h; simp [h]

/-- An OPEN waits for RE, which counts the parked frames. -/
theorem State.countParked_of_some {o : SessionOpening} (h : s.hl.opening = some o) (hp : o.parked = none) :
    s.countParked = s.setOpening { o with parked := some s.re.parks.length } := by
  simp [State.countParked, h, hp]

/-- Acceptance leaves what waits for RE as it is. -/
@[simp] theorem State.openAwaitsRE_holding (tag code : Byte) :
    (s.holding tag code).openAwaitsRE = s.openAwaitsRE := rfl

/-- Acceptance leaves what waits for RU as it is. -/
@[simp] theorem State.openAwaitsRU_holding (tag code : Byte) :
    (s.holding tag code).openAwaitsRU = s.openAwaitsRU := rfl

/-- Acceptance leaves what waits at a block as it is. -/
@[simp] theorem State.nothingAhead_holding (tag code : Byte) (b : Block) :
    (s.holding tag code).nothingAhead b = s.nothingAhead b := rfl

/-! ### The reads of a STATS (R170) -/

/-- What a block's read leads to: after the Capture Unit the Line Port waits for its own, after any other block the reply. -/
theorem State.readBlock_cases (r : StatsRead) :
    (∃ n, r.next = .unit n
        ∧ s.readBlock r = { (if r.clear then s.clearRead r.next else s) with ru := { s.ru with
            reads := s.ru.reads.map (fun x =>
              if x.tag == r.tag then { r with next := .port n (s.unit n).counters } else x) } })
      ∨ ((∀ n, r.next ≠ .unit n)
        ∧ s.readBlock r = ({ (if r.clear then s.clearRead r.next else s) with ru := { s.ru with
            reads := s.ru.reads.filter (fun x => x.tag != r.tag) } } : State).answerStats
              r.tag r.next.selector (s.readItems r.next)) := by
  unfold State.readBlock
  cases h : r.next with
  | unit n => exact .inl ⟨n, rfl, rfl⟩
  | _ => exact .inr ⟨fun _ => BlockRead.noConfusion, rfl⟩

/-- The read under a tag that no other read has is the one a block takes for it. -/
theorem State.statsAtBlock_split {front back : List StatsRead} {r : StatsRead} (e : s.ru.reads = front ++ r :: back)
    (h : ∀ x ∈ front, x.tag ≠ r.tag) : s.statsAtBlock r.tag = s.readBlock r := by
  have found : s.ru.reads.find? (fun x => x.tag == r.tag) = some r := by
    rw [e, List.find?_append, List.find?_eq_none.2 (by simpa using h)]
    simp
  simp [State.statsAtBlock, found]

/-- The reads left once the one under a tag of its own has been taken. -/
theorem reads_filter_split (front back : List StatsRead) (r : StatsRead) (h : ∀ x ∈ front ++ back, x.tag ≠ r.tag) :
    (front ++ r :: back).filter (fun x => x.tag != r.tag) = front ++ back := by
  rw [List.filter_append, List.filter_cons_of_neg (by simp), ← List.filter_append]
  exact List.filter_eq_self.2 (by simpa using h)

/-- The reads with the one under a tag of its own replaced. -/
theorem reads_map_split (front back : List StatsRead) (r r' : StatsRead) (h : ∀ x ∈ front ++ back, x.tag ≠ r.tag) :
    (front ++ r :: back).map (fun x => if x.tag == r.tag then r' else x) = front ++ r' :: back := by
  have same (l : List StatsRead) (hl : ∀ x ∈ l, x.tag ≠ r.tag) :
      l.map (fun x => if x.tag == r.tag then r' else x) = l := by
    refine (List.map_congr_left fun x hx => ?_).trans (List.map_id l)
    simp [hl x hx]
  rw [List.map_append, List.map_cons, same front fun x hx => h x (List.mem_append_left _ hx),
    same back fun x hx => h x (List.mem_append_right _ hx)]
  simp

end Sys2Proof.Machine
end

