-- ==== Sys2Proof/Tests/Slice0.lean ====
section
/-! SUPPORT. Tests of single steps, with expected values from the spec's tables and worked sequences (named at each test), a
smoke test of the well-formedness checks, and a witness for the premises of each statement of
Sys2Proof/Certificates/Slice0/Obligations.lean, clause by clause, at boundary values. -/

-- One theorem at a time: hundreds of small ones at once start more threads than the memory limit holds.
set_option Elab.async false

namespace Sys2Proof.Tests

open Sys2Proof Sys2Proof.Machine

/-! ### Small states -/

/-- The link with a session OPEN and nothing outstanding. -/
def openLink : HostLink := { State.reset.hl with session := .opened }

/-- The part after reset with a session OPEN. -/
def opened : State := { State.reset with hl := openLink, ru := { State.reset.ru with reporting := true } }

/-- A line switched ON at rest. -/
def quietPort : LinePort := { config := { mode := .on }, receiver := .idle, level := .mark }

/-- A plan that opens on any character and closes at a limit of 4. -/
def anyPlan : Plan :=
  { startForm := .any, quiet := none, lead := none, trail := none, gap := some 5, span := some 9, limit := 4,
    errorPolicy := .abort, again := .continuous, keyOffset := 0, keyWidth := .one, shortPolicy := .discard,
    overflow := .drop, defaultQueue := 0 }

/-- Line 0 ON. -/
def lineOn : State := opened.modPort 0 (fun _ => quietPort)

/-- Line 0 ON and hunting by a plan. -/
def hunting (p : Plan) : State := lineOn.modUnit 0 (fun u => u.hunt p)

/-- A frame of line 0 in slot 0 with its data, in a state of R33. -/
def framed (s : State) (st : SlotState) (data : List Byte) : State :=
  s.modSlot 0 (fun _ => { state := st, owner := some (.line 0), data := data, record := { sequence := 1 } })

/-- Line 0 collecting a frame in slot 0. -/
def collecting : State :=
  (framed lineOn .collecting [1, 2]).modUnit 0 (fun u => { u with
    phase := .collecting, plan := some anyPlan, gap := some ⟨500, 100⟩, span := some ⟨900, 100⟩, nextSeq := 2
    frame := some { slot := 0, errorCount := 0, openTime := 0, domain := 0, sequence := 1 } })

/-- Line 0 skipping. -/
def skipping : State :=
  lineOn.modUnit 0 (fun u => { u with
    phase := .skipping, plan := some anyPlan, gap := some ⟨500, 100⟩, span := some ⟨900, 100⟩
    skip := some { length := 2, sequence := 1 } })

/-- A frame of line 0 handed to RE. -/
def handedFrame : HandedFrame :=
  { slot := 0, line := 0, domain := 0, keyOffset := 0, keyWidth := .one, shortPolicy := .discard, overflow := .drop,
    defaultQueue := 0 }

/-- RE with that frame to take. -/
def handed (data : List Byte) : State :=
  let s := framed lineOn .withRE data
  { s with re := { s.re with handed := [handedFrame] } }

/-- A route entry for key 7. -/
def entry7 : RouteEntry :=
  { key := 7, width := .one, scope := .shared, action := .deliver 0, rewrite := none, pinned := false, state := .active,
    hits := 0, stamp := 1 }

/-- A parked frame in slot 0. -/
def parkRecord (number : Half) (reason : ParkReason) : ParkRecord :=
  { number := number, reason := reason, line := 0, width := .one, key := 7, domain := 0, sequence := 1, length := 1,
    parkTime := 0, deadline := 500000, keyOffset := 0, slot := 0, timer := ⟨500000, 1000⟩ }

/-- RE with parked frames. -/
def parked (rs : List ParkRecord) : State :=
  let s := framed lineOn .parked [7]
  { s with re := { s.re with parks := rs } }

/-- A host entry in slot 0. -/
def hostEntry (preQuiet : Half) : TxEntry := { slot := 0, origin := .host 1 true, preQuiet := preQuiet }

/-- A line ON with transmit entries, in a transmitter state. -/
def portWith (es : List TxEntry) (st : TxState) (wire : Option TxChar) (d : Option Drain) (preQuiet : Option Timer) :
    LinePort :=
  { quietPort with txQueue := es, txState := st, onWire := wire, drain := d, preQuiet := preQuiet, nextTxNumber := 2 }

/-- Line 0 with transmit entries, in a transmitter state. -/
def sendingWith (data : List Byte) (es : List TxEntry) (st : TxState) (wire : Option TxChar) (d : Option Drain) : State :=
  (framed opened .txQueued data).modPort 0 (fun _ => portWith es st wire d none)

/-- The character that goes out for a byte on line 0. -/
def wire (b : Byte) : TxChar := quietPort.config.sent b

/-- A drain to a configuration at another rate. -/
def drain (requester : Requester) (timer : Option Timer) (cutDone : Bool) : Drain :=
  { pending := { mode := .on, rate := .r1200 }, limit := 60000, timer := timer, requester := requester, cutDone := cutDone,
    aborted := 0, flushed := 0 }

/-- Queue 0 as given. -/
def withQueue (q : DeliveryQueue) : State := opened.modQueue 0 (fun _ => q)

/-- A queued report. -/
def lossReport : QueuedReport := { sequence := 1, report := .loss {} }

/-- The Report Unit as given. -/
def withReports (r : ReportUnit) : State := { opened with ru := r }

/-- What a command leaves, if it does not stop. -/
def after (c : Instr) (s : State) : Option State :=
  match exec c s with
  | .next t => some t
  | _ => none

/-! ### Facts about the small states -/

theorem ready_of (s : State) (h : s.hl = openLink) (tag : Byte) (h0 : tag ≠ 0) : Ready s tag := by
  refine ⟨⟨?_, h0, ?_, ?_⟩, ?_⟩ <;> rw [h] <;> simp [openLink, State.reset, Config.requestSlots]

theorem readyAt_of_ready {s : State} {tag : Byte} (r : Ready s tag) (h : s.hl.handed = []) (o : s.hl.opening = none) (b : Block) :
    ReadyAt s tag b := by
  refine ⟨r, ?_⟩
  cases b <;> simp [State.nothingAhead, State.awaited, State.openAwaits, State.openAwaitsRU, State.openAwaitsRE, h, o]

theorem readyAt_of (s : State) (h : s.hl = openLink) (tag : Byte) (h0 : tag ≠ 0) (b : Block) : ReadyAt s tag b :=
  readyAt_of_ready (ready_of s h tag h0) (by rw [h]; rfl) (by rw [h]; rfl) b

/-- A Host Link with nothing under way between it and the blocks, and nothing in its outgoing list that waits. -/
theorem link_sound {h : HostLink}
    (slots : h.slots.length ≤ Config.requestSlots ∧ (h.slots.map RequestSlot.tag).Nodup ∧ ∀ r ∈ h.slots, r.tag ≠ 0)
    (waiting : h.waiting = []) (incoming : h.incoming = []) (handed : h.handed = []) (rx : h.ReceiverSound)
    (heard : h.ignoring = true → h.rx = .huntSync) : h.Sound :=
  ⟨slots.1, slots.2.1, slots.2.2, by simp [waiting], by simp [waiting], by simp [waiting], by simp [incoming],
    by simp [handed], rx, heard⟩

theorem link_sound_of (s : State) (h : s.hl = openLink) : s.hl.Sound := by
  rw [h]
  exact link_sound ⟨by decide, by decide, by decide⟩ rfl rfl rfl ⟨rfl, rfl⟩ fun _ => rfl

/-! ### Well-formedness smoke: each check refuses an ill-formed term -/

theorem test_wf_absent_value : (OptItem.wf (n := 16) ⟨0, 3⟩) = false := by decide
theorem test_wf_plan : ({ anyPlan.raw with gap := ⟨0, 1⟩ } : RawPlan).wf = false := by decide
theorem test_wf_arm : (Instr.arm 1 0 { anyPlan.raw with lead := ⟨0, 1⟩ }).wf = false := by decide
theorem test_wf_numbers : (RawNumbers.listed (List.replicate 255 1)).wf = false := by decide +kernel
theorem test_wf_release : (Instr.release 1 0 (.listed (List.replicate 255 1))).wf = false := by decide +kernel
theorem test_wf_return : (Instr.returnFrames 1 0 (.listed (List.replicate 255 1))).wf = false := by decide +kernel
theorem test_wf_remove : (Instr.routeRemove 1 (.byKey 0 5 1 0)).wf = false := by decide
theorem test_wf_install :
    (Instr.routeInstall 1 ⟨0xFF, 5, 1, 0, 1, 0, 0, ⟨0, 9⟩, 0, 1⟩).wf = false := by decide
theorem test_wf_transmit : (Instr.transmit 1 0 (List.replicate 256 1) 0 0).wf = false := by decide +kernel
theorem test_wf_unknown : (Instr.unknownRequest 1 (some 0x30)).wf = false := by decide
theorem test_wf_accepts : (Instr.transmit 1 0 (List.replicate 255 1) 0 0).wf = true := by decide +kernel

/-! ### Bytes (R145, 08_the_host_link.md; section 11.5) -/

/-- The check value that R145 gives for the nine digits. -/
theorem test_crc_digits : crc16 [0x31, 0x32, 0x33, 0x34, 0x35, 0x36, 0x37, 0x38, 0x39] = 0x29B1 := by decide +kernel

/-- The QUEUE_GET packet of section 11.5: nine bytes, of length 4, kind REQUEST, tag 5, code 0x34, queue 2. -/
theorem test_packet_queue_get :
    (packetBytes 1 5 [0x34, 2]).take 7 = [0xA7, 4, 0, 1, 5, 0x34, 2] ∧ (packetBytes 1 5 [0x34, 2]).length = 9 := by
  decide +kernel

/-- The payload of FETCH (1, 8, 2000), written out by the layout of section 10.3. -/
theorem test_decode_fetch : decodePayload 9 [0x30, 1, 8, 0xD0, 0x07] = .request (.fetch 9 1 8 2000) := by decide +kernel

/-- A payload that ends early is BAD_LENGTH, and so is one with a byte too many (R174). -/
theorem test_decode_bad_length :
    decodePayload 9 [0x30, 1, 8, 0xD0] = .badLength 0x30 ∧ decodePayload 9 [0x30, 1, 8, 0xD0, 0x07, 0] = .badLength 0x30 := by
  decide +kernel

/-! ### Single steps -/

/-- Section 11.1: ARM with a QUIET_LEAD plan of 30 TU starts in HUNT_QUIET with 3 ms to run. -/
theorem test_arm_quiet_lead :
    (after (.arm 1 0 { anyPlan.raw with startForm := 3, quiet := ⟨1, 30⟩, lead := ⟨1, 0x68⟩ }) lineOn).map
      (fun t => ((t.unit 0).phase, (t.unit 0).quiet)) = some (.huntQuiet, some ⟨3000, 100⟩) := by decide +kernel

/-- R5 step 4: a QUIET plan without a quiet time is BAD_PARAM with position 3. -/
theorem test_arm_without_quiet :
    (after (.arm 1 0 { anyPlan.raw with startForm := 1 }) lineOn).map (fun t => t.hl.incoming.map OutPacket.payload)
      = some [[0x10, 0x15, 3]] := by decide +kernel

/-- R15: the character that opens a frame is its byte 0. -/
theorem test_character_opens :
    (after (.characterReceived 0 0x42 false true)
      ((hunting anyPlan).modPort 0 (fun p => { p with receiver := .receiving }))).map
      (fun t => ((t.unit 0).phase, (t.slot 0).data)) = some (.collecting, [0x42]) := by decide +kernel

/-- R130: on a line of 7 data bits the high sample is not a data bit. -/
theorem test_seven_bits :
    ({ mode := .on, dataBits := .seven, parity := .even } : LineConfig).judge 0xC1 false true = .ended 0x41 .good := by
  decide +kernel

/-- R18: the gap timer's expiry keeps the frame, with the reason GAP. -/
theorem test_gap_closes :
    (after (.gapTimerExpiry 0 500 false) collecting).map
      (fun t => ((t.unit 0).lastClose, t.re.handed.length, (t.slot 0).state)) = some (some .gap, 1, .withRE) := by
  decide +kernel

/-- R1, R20: one microsecond earlier the expiry has no effect; a timer of 5 TU has 600 microseconds at most. -/
theorem test_gap_early :
    (after (.gapTimerExpiry 0 499 false) collecting).map (fun t => ((t.unit 0).phase, t.time)) = some (.collecting, 499)
      ∧ (after (.spanTimerExpiry 0 5000 false) collecting).map (fun t => ((t.unit 0).phase, t.time))
        = some (.collecting, 600) := by decide +kernel

/-- R124, row 2: the unit's frame closes, a character opens the next, and the transmitter finds the turn busy again. -/
theorem test_turn_busy_again :
    ((after (.gapTimerExpiry 0 500 true) (collecting.modPort 0 (fun p => { p with
        config := { p.config with duplex := .half }, txState := .waitTurn, txQueue := [hostEntry 0]
        receiver := .receiving }))).bind (after (.characterReceived 0 7 false true))).map
      (fun t => ((t.port 0).txState, (t.unit 0).phase)) = some (.waitTurn, .collecting) := by decide +kernel

/-- R144: after a stop bit at space no byte is taken until RXD has returned to mark. -/
theorem test_byte_after_space :
    ((after (.hostByteReceived 0xA7 false true) opened).bind (after (.hostByteReceived 2 true false))).map
      (fun t => (t.hl.rx, t.hl.kept, t.hl.rxSpace)) = some (.length, [], true) := by decide +kernel

/-- R117: the byte 0x41 on a line of 7 data bits, parity EVEN and 2 stop bits: start, 1000001, parity 0, two stop bits. -/
theorem test_char_levels :
    ({ dataBits := .seven, parity := .even, stopBits := .two } : LineConfig).charLevels 0xC1
      = [false, true, false, false, false, false, false, true, false, true, true] := by decide +kernel

/-- R108: a placement between the session end at QM and the next OPEN raises no QUEUE_READY. -/
theorem test_placement_after_end :
    ((after (.sessionEnd .qm) { ((opened.modQueue 0 (fun q => { q with notify := true }))) with
        hl := { openLink with session := .closed, ending := some { cause := .byOpen 1 0 } } }).map
      (fun s => ((framed s .withRE [1]).place 0 0).1)).map (fun t => ((t.queue 0).armed, (t.queue 0).waiting, t.ru.inbox))
      = some (true, [0], []) := by decide +kernel

/-- R79: the ROUTE_MISS report of a frame parked MISS. -/
theorem test_miss_reported :
    (after (.frameTaken 0) (handed [7, 8])).map (fun t => t.ru.inbox)
      = some [(.re, .report (.routeMiss 1 0 7 .one 2))] := by decide +kernel

/-- R47: a key of width 2 has its first byte high. -/
theorem test_key_width_two : keyOf [0x12, 0x34, 0x56] 1 .two = some 0x3456 := by decide +kernel

/-- R53: a SHARED entry conflicts with an entry of any domain for its key. -/
theorem test_conflict :
    (after (.routeInstall 1 ⟨0xFF, 7, 1, 3, 0, 0, 2, ⟨0, 0⟩, 0, 1⟩) (lineOn.setRoute 5 (some entry7))).map
      (fun t => t.hl.incoming.map OutPacket.payload) = some [[0x20, 0x21, 5]] := by decide +kernel

/-- Section 5.9: FETCH (1, 8, 0) of two waiting frames lends both, and numbers them 1 and 2. -/
theorem test_fetch_lends_two :
    (after (.fetch 1 1 8 0) (opened.modQueue 1 (fun q => { q with waiting := [0, 1] }))).map
      (fun t => ((t.queue 1).waiting, (t.queue 1).lent, t.lentNumbers 1)) = some ([], [0, 1], [1, 2]) := by decide +kernel

/-- Section 5.9: RELEASE of a number that is not lent is UNKNOWN_DELIVERY with the number. -/
theorem test_release_unknown :
    (after (.release 1 1 (.listed [2, 5]))
      ((opened.modQueue 1 (fun q => { q with lent := [0] })).modRecord 0 (fun r => { r with deliveryNumber := 2 }))).map
      (fun t => t.hl.incoming.map OutPacket.payload) = some [[0x31, 0x2A, 5, 0]] := by decide +kernel

/-- Section 11.1: TRANSMIT with a pre-quiet of 40 TU waits 4 ms, and is answered number 1, count 1. -/
theorem test_transmit_waits :
    (after (.transmit 1 0 [1, 2] 40 1) lineOn).map
      (fun t => ((t.port 0).txState, (t.port 0).preQuiet, t.hl.incoming.map OutPacket.payload))
      = some (.waitQuiet, some ⟨4000, 100⟩, [[0x38, 0, 0, 1, 0, 1]]) := by decide +kernel

/-- R118, R125: the last character of an entry with notify raises TX_DONE SENT. -/
theorem test_last_character :
    (after (.characterSent 0) (sendingWith [9] [hostEntry 0] (.sending 0) (some (wire 9)) none)).map
      (fun t => ((t.port 0).txState, t.ru.inbox)) = some (.idle, [(.lp 0, .report (.txDone 1 0 .sent))]) := by decide +kernel

/-- R114, R119: LINE_SET switches a sending half-duplex line OFF; LDIR stays asserted up to the last stop bit of the
character under way, in TRAILING, and the transmitter is then IDLE. R4, R29: the line-sending flag is clear while the line is
OFF, and after a switch ON in that time it is set on a half-duplex line only. -/
theorem test_off_while_sending :
    let s := ((sendingWith [9] [hostEntry 0] (.sending 0) (some (wire 9)) none).modPort 0 (fun p => { p with
      ldir := true, config := { p.config with duplex := .half } })).modUnit 0 CaptureUnit.beginSending
    let off := after (.lineSet 1 0 ⟨0, 3, 8, 0, 1, 1, 0⟩ 0) s
    off.map (fun t => ((t.port 0).ldir, (t.port 0).txState, (t.unit 0).lineSending)) = some (true, .trailing, false)
      ∧ (off.bind (after (.lineSet 2 0 ⟨1, 3, 8, 0, 1, 1, 0⟩ 0))).map (fun t => (t.unit 0).lineSending) = some true
      ∧ (off.bind (after (.lineSet 2 0 ⟨1, 3, 8, 0, 1, 0, 0⟩ 0))).map (fun t => (t.unit 0).lineSending) = some false
      ∧ (off.bind (after (.characterSent 0))).map (fun t => ((t.port 0).ldir, (t.port 0).txState)) = some (false, .idle) := by
  decide +kernel

/-- R131: the detection of a break moves a unit in HUNT_BREAK with start form BREAK to HUNT_ANY. -/
theorem test_break_hunt :
    (after (.breakDetected 0)
      ((hunting { anyPlan with startForm := .brk }).modPort 0 (fun p => { p with receiver := .candidate }))).map
      (fun t => ((t.unit 0).phase, (t.port 0).rxCounters.breaks)) = some (.huntAny, 1) := by decide +kernel

/-- R168: the first loss with reporting on queues a LOSS report, and the next one does not. -/
theorem test_loss_reported :
    (after (.lossHanded .qm) { opened with ru := { opened.ru with inbox := [(.qm, .loss .queueFull 0)] } }).map
      (fun t => (t.ru.queue.length, t.ru.lossPending, t.ru.losses.queueFull)) = some (1, true, 1) := by decide +kernel

/-- R167: RU and the Line Port each take a loss, and each counts it once. -/
theorem test_loss_at_the_line :
    ((after (.lossHanded .qm (.lp 0)) { opened with ru := { opened.ru with inbox := [(.qm, .loss .queueFull 0)] } }).bind
      (after (.lossHanded .qm))).map
      (fun t => ((t.port 0).losses.queueFull, t.ru.losses.queueFull, t.ru.inbox)) = some (1, 1, []) := by decide +kernel

/-- R131: the space that begins inside a FRAMING character may still become a break. -/
theorem test_break_after_framing :
    (((after (.characterReceived 0 0x42 false false) (lineOn.modPort 0 (fun p => { p with receiver := .receiving }))).bind
      (after (.breakDetected 0))).map (fun t => ((t.port 0).receiver, (t.port 0).rxCounters.breaks)))
      = some (.waitMark, 1) := by decide +kernel

/-- R131: a line that has returned to mark after a FRAMING character has no break. -/
theorem test_no_break_after_mark :
    ((((after (.characterReceived 0 0x42 false false) (lineOn.modPort 0 (fun p => { p with receiver := .receiving }))).bind
      (after (.returnToMark 0))).bind (after (.breakDetected 0))).map
      (fun t => ((t.port 0).receiver, (t.port 0).rxCounters.framingErrors, (t.port 0).rxCounters.breaks)))
      = some (.idle, 1, 0) := by decide +kernel

/-- R170: a frame closes between the two reads of STATS (0, 0, 1); the Capture Unit was read and cleared before it. -/
theorem test_frame_closes_between_reads :
    ((((after (.stats 1 0 0 1) collecting).bind (after (.stats 1 0 0 0 .read))).bind
      (after (.gapTimerExpiry 0 500 false))).bind (after (.stats 1 0 0 0 .read))).map
      (fun t => ((t.unit 0).counters.keptGap, t.ru.reads.length, t.hl.incoming.map (fun p => p.payload.take 8), t.hl.slots))
      = some (1, 0, [[0x42, 0, 0, 0, 0, 0, 0, 0]], [⟨1, 0x42⟩]) := by decide +kernel

/-- R155, R170: QM, which has taken the session end, is read after it for a STATS (1, 0, 0) accepted before the CLOSE. -/
theorem test_queue_read_after_session_end :
    (((after (.stats 1 1 0 0) (withQueue { lent := [0] })).bind (after (.closeSession 2))).bind fun s =>
      (after (.sessionEnd .qm) s).bind (after (.stats 1 0 0 0 .read))).map
      (fun t => (t.hl.incoming.map OutPacket.payload, t.ru.reads, t.hl.ending.map SessionEnding.returned))
      = some ([[0x42, 0, 1, 0, 0, 0, 0, 0, 0, 0, 0, 0, 0, 0, 0, 0, 0, 0, 0, 0, 1, 0, 0, 0, 1, 0]], [], some 1) := by
  decide +kernel

/-- R153, R154: a PARK_RESOLVE accepted after an OPEN waits at RE behind it, and is taken once the frame is counted. -/
theorem test_open_counts_before_resolve :
    ((((((after (.openSession 9) { parked [parkRecord 1 .miss] with hl := State.reset.hl, ru := {} }).bind
      (after (.parkResolve 1 1 2 0))).bind (after (.parkResolve 1 1 2 0 .block))).bind (after (.openSession 9 .re))).bind
      (after (.parkResolve 1 1 2 0 .block))).bind (after (.openSession 9 .ru))).map
      (fun t => (t.re.parks.length, t.hl.incoming.map OutPacket.payload, t.outgoing.map (fun p => p.payload.take 8)))
      = some (0, [[0x28, 0, 1, 0, 2, 0, 0, 0]], [[0x01, 0, 1, 0, 0, 0, 0, 1]]) := by decide +kernel

/-- R153: a POOL_GET accepted after a FETCH is taken before it by a block of its own, and its reply joins the list first. -/
theorem test_replies_overtake :
    ((((((after (.fetch 1 0 1 0 .accept) opened).bind (after (.poolGet 2 .accept))).bind (after (.poolGet 2 .block))).bind
      (after (.fetch 1 0 1 0 .block))).bind (after (.packetSent ⟨true, true⟩ .joins))).bind
      (after (.packetSent ⟨true, true⟩ .joins))).map (fun t => (t.outgoing.map OutPacket.tag, t.hl.slots, t.hl.handed))
      = some ([2, 1], [], []) := by decide +kernel

/-- R153: two requests for one block are taken in the order of acceptance. -/
theorem test_block_keeps_order :
    (((after (.queueSet 1 0 5 0 .accept) opened).bind (after (.queueGet 2 0))).bind (after (.queueGet 2 0 .block))).map
      (fun t => (t.hl.handed, t.hl.incoming)) = some ([(.qm, .queueSet 1 0 5 0), (.qm, .queueGet 2 0)], []) := by decide +kernel

/-- Section 8.10: a LENGTH discard before the first notice has begun is not queued; the next notice carries the count 1. -/
theorem test_notice_before_the_first_begins :
    ((((after (.packetDiscarded .check) opened).bind (after (.packetDiscarded .length))).bind
      (after (.packetSent ⟨true, true⟩ .begins))).bind (after (.packetDiscarded .kind))).map
      (fun t => (t.outgoing.map OutPacket.payload, t.hl.noticesUnsent, t.hl.counters.noticesNotSent))
      = some ([[3, 0, 0], [4, 1, 0]], 0, 1) := by decide +kernel

/-- R160, R164: a report that is acknowledged before its copy has reached HL is not sent. -/
theorem test_late_copy_dropped :
    (((after (.reportRaised .qm) { opened with ru := { opened.ru with inbox := [(.qm, .report (.queueReady 0 1))] } }).bind
      (after (.ackReports 1 1))).bind (after (.packetSent ⟨true, true⟩ .joins))).map
      (fun t => (t.hl.incoming, t.outgoing.map OutPacket.payload)) = some ([], [[0x40, 0, 1, 0, 0, 0]]) := by decide +kernel

/-- R154, R161: a report raised after HL has opened the session, and taken before RU takes the session open, is gone; the
reply follows once RU and RE have taken the OPEN: POWER (1), the time 0, no parked frame, NONE, and the capacities. -/
theorem test_open_taken_by_the_blocks :
    ((after (.openSession 1) { State.reset with ru := { State.reset.ru with inbox := [(.qm, .report (.queueReady 0 1))] } }).bind
      fun s => (after (.reportRaised .qm) s).bind fun s => (after (.openSession 1 .ru) s).bind (after (.openSession 1 .re))).map
      (fun t => (t.ru.reporting, t.ru.queue, t.outgoing.map OutPacket.payload))
      = some (true, [], [[0x01, 0, 1, 0, 0, 0, 0, 0, 0, 128, 48, 16, 8, 32, 4]]) := by decide +kernel

/-! ### Witnesses of premises

One theorem per statement that has premises. Where a statement has several clauses, the parts of the conjunction are the
premises of its clauses, in their order. -/

theorem accepts_closed (tag : Byte) (h0 : tag ≠ 0) : Accepts State.reset tag := by
  refine ⟨?_, h0, ?_, ?_⟩ <;> simp [State.reset, Config.requestSlots]

/-- A transmitter that waits for a turn already free. -/
def freedTurn : State :=
  lineOn.modPort 0 (fun p => { p with
    config := { p.config with duplex := .half }, txState := .waitTurn, txQueue := [{ slot := 0, origin := .host 1 true, preQuiet := 0 }] })

theorem witness_StepRunsFrontCommand :
    (freedTurn.pending = [] ∧ freedTurn.turnWaits 0 = true ∧ (freedTurn.port 0).txQueue ≠ [])
      ∧ ((∀ n, (collecting.elapse 600).turnWaits n = false)
        ∧ (collecting.elapse 600).overdue = some (.gapTimerExpiry 0 0 false))
      ∧ ((∀ n, (collecting.elapse 599).turnWaits n = false) ∧ (collecting.elapse 599).overdue = none) := by decide +kernel

theorem witness_TimersExpireInTheirWindow :
    (timerOf (.gapTimerExpiry 0 499 true)).isSome = true
      ∧ ((collecting.pass 499).unit 0).gap = some ⟨1, 100⟩
      ∧ (timerOf (.quietTimerExpiry 0 0)).isSome = true ∧ (collecting.unit 0).quiet = none
      ∧ (∀ n, collecting.turnWaits n = false) ∧ (∀ x ∈ collecting.timers, 600 ≤ x.2.wait + x.2.grace) := by decide +kernel

/-- The link with the RESET reply going out. -/
def sendingReset : State :=
  { opened with hl := { openLink with sending := some { kind := .resetReply, tag := 1, payload := [5, 0] } } }

theorem witness_DeviceResetAndTheOutgoingList :
    (∃ p, sendingReset.hl.sending = some p ∧ p.kind = .resetReply)
      ∧ ∃ p, ({ opened with hl := { openLink with sending := some (replyPacket 1 2 .ok []) } } : State).hl.sending = some p
        ∧ p.kind ≠ .resetReply := ⟨⟨_, rfl, rfl⟩, _, rfl, by decide⟩

/-- A transmitter at rest; nothing for HL to take, a reply, and a report copy. -/
theorem witness_DeviceResetAndTheOutgoingList_packets :
    let reply := replyPacket 1 2 .ok []
    let copy : OutPacket := { kind := .report 65535, tag := 0, payload := [] }
    let s : State := { opened with hl := { openLink with incoming := [reply, copy] } }
    let u : State := { opened with hl := { openLink with incoming := [copy] } }
    (opened.hl.sending = none ∧ opened.hl.incoming = []) ∧ (s.hl.incoming = reply :: [copy] ∧ reply.kind = .reply)
      ∧ u.hl.incoming = copy :: [] ∧ copy.kind = .report 65535 := by decide

/-- The link with bytes of a packet kept. -/
def receiving (rx : LinkRxState) (kept : List Byte) : State :=
  { opened with hl := { openLink with rx := rx, kept := kept, gapTimer := some ⟨10000, 1000⟩ } }

theorem receiving_sound (rx : LinkRxState) (kept : List Byte)
    (h : ({ openLink with rx := rx, kept := kept, gapTimer := some ⟨10000, 1000⟩ } : HostLink).ReceiverSound) :
    (receiving rx kept).hl.Sound :=
  link_sound ⟨by simp [receiving, openLink, State.reset], by simp [receiving, openLink, State.reset],
    by simp [receiving, openLink, State.reset]⟩ rfl rfl rfl h (by simp [receiving, openLink, State.reset])

theorem witness_DiscardsAreCountedAndNoticed :
    (opened.hl.Sound ∧ opened.hl.ignoring = false)
      ∧ ((receiving .length []).hl.Sound ∧ (receiving .length []).hl.ignoring = false
        ∧ ((receiving .length []).pass 10000).hl.gapTimer = some ⟨0, 1000⟩) :=
  ⟨⟨link_sound_of _ rfl, rfl⟩, receiving_sound _ _ ⟨by decide, rfl⟩, rfl, by decide +kernel⟩

theorem witness_HostBytesMoveTheReceiver :
    (opened.hl.Sound ∧ opened.hl.ignoring = false ∧ opened.hl.rx = .huntSync ∧ (0xA6 : Byte) ≠ 0xA7
        ∧ opened.hl.rxSpace = false ∧ ({ openLink with rxSpace := true } : HostLink).Sound)
      ∧ ((receiving .length []).hl.Sound ∧ (receiving .length []).hl.kept = [])
      ∧ ((receiving .length [2]).hl.Sound ∧ 2 ≤ (half 2 0).toNat ∧ (half 2 0).toNat ≤ 1026)
      ∧ (2 ≤ (half 2 4).toNat ∧ (half 2 4).toNat ≤ 1026)
      ∧ ((receiving .length [1]).hl.Sound ∧ (half 1 0).toNat < 2)
      ∧ ((receiving .length [3]).hl.Sound ∧ 1026 < (half 3 4).toNat)
      ∧ (receiving .body [2, 0]).hl.Sound ∧ (receiving .body [3, 0, 1, 1]).hl.Sound
      ∧ ((receiving .check [2, 0, 1, 1]).hl.Sound
        ∧ [2, 0, 1, 1].length = packetLength [2, 0, 1, 1] + 2) := by
  refine ⟨⟨link_sound_of _ rfl, rfl, rfl, by decide, rfl, link_sound_of opened rfl⟩, ⟨receiving_sound _ _ ⟨by decide, rfl⟩, rfl⟩,
    ⟨receiving_sound _ _ ⟨by decide, rfl⟩, by decide, by decide⟩, ⟨by decide, by decide⟩,
    ⟨receiving_sound _ _ ⟨by decide, rfl⟩, by decide⟩, ⟨receiving_sound _ _ ⟨by decide, rfl⟩, by decide⟩,
    receiving_sound _ _ ⟨by decide, by decide, by decide, by decide, rfl⟩,
    receiving_sound _ _ ⟨by decide, by decide, by decide, by decide, rfl⟩,
    receiving_sound _ _ ⟨by decide, by decide, by decide, rfl⟩, by decide⟩

theorem witness_ResetRequestStopsTheInput :
    (Accepts State.reset 1 ∧ State.reset.hl.Sound)
      ∧ let s : State := { (receiving .length []) with hl := { (receiving .length []).hl with ignoring := true } }
        s.hl.ignoring = true ∧ (s.pass 10000).hl.gapTimer = some ⟨0, 1000⟩ ∧ (requestOf (.closeSession 1)).isSome = true :=
  ⟨⟨accepts_closed 1 (by decide),
    link_sound ⟨by decide, by decide, by decide⟩ rfl rfl rfl ⟨rfl, rfl⟩ fun _ => rfl⟩, by decide +kernel⟩

/-- The link with requests outstanding under the tags. -/
def outstanding (tags : List Byte) : State :=
  { opened with hl := { openLink with slots := tags.map (fun t => ⟨t, 0x30⟩) } }

theorem witness_RefusedRequestsTakeNoSlot :
    ((Instr.poolGet 0).wf = true ∧ requestOf (.poolGet 0) = some (0, 0x19) ∧ opened.hl.ignoring = false)
      ∧ (requestOf (.poolGet 9) = some (9, 0x19) ∧ ∃ r ∈ (outstanding [9]).hl.slots, r.tag = 9)
      ∧ ((∀ r ∈ (outstanding [1, 2, 3, 4]).hl.slots, r.tag ≠ 9) ∧ 4 ≤ (outstanding [1, 2, 3, 4]).hl.slots.length) :=
  ⟨⟨by decide, by decide, rfl⟩, ⟨by decide, ⟨9, 0x30⟩, by decide, rfl⟩, by decide, by decide⟩

theorem witness_RequestsAreCheckedAndHandedOver :
    ((Instr.unknownRequest 1 none).wf = true ∧ (Instr.unknownRequest 1 (some 0)).wf = true
        ∧ (Instr.unknownRequest 1 (some 0x43)).wf = true ∧ Accepts State.reset 1)
      ∧ State.reset.hl.rx = .huntSync
      ∧ ((Instr.closeSession 255).wf = true ∧ requestOf (.closeSession 255) = some (255, 2) ∧ Accepts State.reset 255
        ∧ State.reset.hl.session = .closed ∧ (2 : Byte) ∈ requestCodes ∧ (2 : Byte) ∉ [(0x01 : Byte), 0x04, 0x05]) :=
  ⟨⟨by decide, by decide, by decide, accepts_closed 1 (by decide)⟩, rfl, by decide, by decide, accepts_closed 255 (by decide), rfl,
    by decide, by decide⟩

/-- Two requests that wait at QM, at Q7, behind one at the Line Port of line 7, and one accepted before them. -/
def handedOver : State :=
  { opened with hl := { openLink with
    handed := [(.lp 7, .lineGet 9 7), (.qm, .queueGet 1 7), (.qm, .queueGet 2 7)]
    slots := [⟨9, 0x3B⟩, ⟨1, 0x34⟩, ⟨2, 0x34⟩] } }

theorem witness_RequestsAreCheckedAndHandedOver_blocks :
    (requestOf (.queueGet 3 7) = some (3, 0x34) ∧ requestOwner (.queueGet 3 7) = some .qm
        ∧ firstOutOfRange (.queueGet 3 7) = none ∧ handedOver.nothingAhead .qm = false
        ∧ Instr.queueGet 3 7 .accept = staged .accept (.queueGet 3 7 .accept) ∧ requestOf (.queueGet 3 7 .accept) = some (3, 0x34))
      ∧ ((handedOver.hl.handed.find? (fun x => x.1 == .qm)).map Prod.snd ≠ some (staged .whole (.queueGet 2 7))
        ∧ ∀ x ∈ handedOver.hl.handed, x.2 = staged .whole (.queueGet 2 7) → x.1 = .qm)
      ∧ (Instr.queueGet 1 7 = staged .whole (.queueGet 1 7)
        ∧ handedOver.hl.handed = [(.lp 7, .lineGet 9 7)] ++ (.qm, .queueGet 1 7) :: [(.qm, .queueGet 2 7)]
        ∧ (∀ x ∈ [((.lp 7 : Block), Instr.lineGet 9 7)], x.1 ≠ .qm ∧ x.2 ≠ .queueGet 1 7)
        ∧ handedOver.openAwaits .qm = false ∧ handedOver.hl.session = .opened)
      ∧ requestOwner (.lineSet 1 7 ⟨1, 0, 8, 0, 1, 0, 0⟩ 60000) = some (.lp 7)
      ∧ requestOwner (.captureGet 1 7) = some (.cu 7) ∧ requestOwner (.poolGet 1) = some .fp := by decide +kernel

theorem witness_RequestsAreCheckedAndHandedOver_ready : Ready handedOver 3 :=
  ⟨⟨rfl, by decide, by decide, by decide⟩, rfl⟩

/-- The example of R174: RELEASE (2, [40, 41, 42]) cut short of its last number, the same followed by a byte, and nine
numbers, which are one too many. -/
theorem witness_RequestsAreCheckedAndHandedOver_payload :
    encodePayload (.release 1 2 (.listed [40, 41, 42])) = some (1, 0x31 :: [2, 3, 40, 0, 41, 0, 42, 0])
      ∧ (Instr.release 1 2 (.listed [40, 41, 42])).wf = true ∧ (0x31 : Byte) ∈ requestCodes
      ∧ 6 < [(2 : Byte), 3, 40, 0, 41, 0, 42, 0].length ∧ (0x31 :: [2, 3, 40, 0, 41, 0, 42, 0] ++ [(0 : Byte)]).length ≤ 1024
      ∧ opened.hl.rx = .huntSync ∧ opened.hl.session = .opened
      ∧ (Instr.release 1 2 (.listed [1, 2, 3, 4, 5, 6, 7, 8, 9])).wf = true
      ∧ firstOutOfRange (.release 1 2 (.listed [1, 2, 3, 4, 5, 6, 7, 8, 9])) = some 2
      ∧ firstOutOfRange (.release 1 2 (.listed [1, 2, 0])) = some 5
      ∧ firstOutOfRange (.release 1 8 .all) = some 1 ∧ 1 < (2 : Byte).toNat := by decide +kernel

theorem witness_PacketBytesCarryTheirRequest :
    (Instr.transmit 1 0 (List.replicate 255 7) 0 1).wf = true
      ∧ (encodePayload (.transmit 1 0 (List.replicate 255 7) 0 1)).isSome = true
      ∧ opened.hl.rx = .huntSync ∧ opened.hl.ignoring = false := by decide +kernel

theorem witness_DamagedPacketsAreDiscarded :
    (opened.hl.Sound ∧ opened.hl.rx = .huntSync ∧ opened.hl.ignoring = false)
      ∧ (List.replicate 1024 (0 : Byte)).length ≤ 1024 ∧ half 0 0 ≠ crc16 (packetBody 1 5 [0x34, 2]) ∧ (2 : Byte) ≠ 1 :=
  ⟨⟨link_sound_of _ rfl, rfl, rfl⟩, (List.length_replicate ..).le, by decide +kernel, by decide⟩

theorem witness_PayloadsDecodeToTheirRequests :
    (Instr.release 1 0 (.listed (List.replicate 254 9))).wf = true
      ∧ (encodePayload (.release 1 0 (.listed (List.replicate 254 9)))).isSome = true
      ∧ encodePayload (.routeRemove 1 (.byKey 255 5 1 16)) = some (1, [0x21, 255, 5, 0, 1, 16])
      ∧ (Instr.routeRemove 1 (.byKey 255 5 1 16)).wf = true := by decide +kernel

/-- A session end under way. -/
def ending (e : SessionEnding) : State :=
  { opened with hl := { openLink with session := .closed, ending := some e, slots := [⟨1, 2⟩] } }

theorem ending_sound (e : SessionEnding) : (ending e).hl.Sound :=
  link_sound ⟨by simp [ending, Config.requestSlots], by simp [ending], by simp [ending]⟩ rfl rfl rfl ⟨rfl, rfl⟩ fun _ => rfl

theorem witness_OpenAndCloseMoveTheSession :
    (Accepts State.reset 1 ∧ State.reset.hl.ending = none ∧ State.reset.hl.session = .closed)
      ∧ (Accepts opened 1 ∧ opened.hl.ending = none ∧ opened.hl.session = .opened)
      ∧ (Accepts (ending { cause := .byClose 1 }) 2 ∧ (ending { cause := .byClose 1 }).hl.ending.isSome = true) :=
  ⟨⟨accepts_closed 1 (by decide), rfl, rfl⟩, ⟨(ready_of opened rfl 1 (by decide)).1, rfl, rfl⟩,
    ⟨rfl, by decide, by decide, by decide⟩, rfl⟩

/-- A session open under way. -/
def opening (o : SessionOpening) : State :=
  { opened with hl := { openLink with opening := some o, slots := [⟨9, 1⟩] }, ru := {} }

theorem opening_sound (o : SessionOpening) : (opening o).hl.Sound :=
  link_sound ⟨by simp [opening, Config.requestSlots], by simp [opening], by simp [opening]⟩ rfl rfl rfl ⟨rfl, rfl⟩ fun _ => rfl

/-- A session open that waits for RU and RE, for RE alone, and for RU alone. -/
theorem witness_OpenAndCloseMoveTheSession_blocks :
    let waiting := opens 9 0 false
    let reported : SessionOpening := { waiting with reportsTaken := true }
    let counted : SessionOpening := { waiting with parked := some 16 }
    ((opening waiting).hl.Sound ∧ (opening waiting).hl.opening = some waiting ∧ waiting.reportsTaken = false
        ∧ waiting.parked = none ∧ (255 : Byte) ≠ waiting.tag)
      ∧ ((opening reported).hl.Sound ∧ (opening reported).hl.opening = some reported ∧ reported.reportsTaken = true
        ∧ reported.parked = none)
      ∧ ((opening counted).hl.Sound ∧ (opening counted).hl.opening = some counted ∧ counted.reportsTaken = false
        ∧ counted.parked = some 16 ∧ counted.parked.isSome = true) :=
  ⟨⟨opening_sound _, rfl, rfl, rfl, by decide⟩, ⟨opening_sound _, rfl, rfl, rfl⟩, opening_sound _, rfl, rfl, rfl, rfl⟩

/-- Requests that wait at RU and at RE behind an OPEN. -/
theorem witness_OpenAndCloseMoveTheSession_requests :
    let s := opening (opens 9 0 false)
    let i : Instr := .routeInstall 1 ⟨0xFF, 7, 1, 3, 0, 0, 2, ⟨0, 0⟩, 0, 1⟩
    Ready s 1 ∧ s.hl.opening = some (opens 9 0 false) ∧ (opens 9 0 false).reportsTaken = false ∧ (opens 9 0 false).parked = none
      ∧ (requestOf i = some (1, 0x20) ∧ requestOwner i = some .re ∧ firstOutOfRange i = none)
      ∧ (requestOf (.resendReports 1) = some (1, 0x41) ∧ requestOwner (.resendReports 1) = some .ru
        ∧ firstOutOfRange (.resendReports 1) = none)
      ∧ ∀ x ∈ s.hl.handed, x.2 = staged .whole i → x.1 = .re :=
  ⟨⟨⟨rfl, by decide, by decide, by decide⟩, rfl⟩, rfl, rfl, rfl, by decide +kernel, by decide +kernel, by decide⟩

/-- A session end that every block has taken. -/
def allTaken (cause : EndCause) : SessionEnding :=
  { cause := cause, queuesTaken := true, portsTaken := Vector.replicate 8 true, reportsTaken := true }

theorem witness_SessionEndSettlesEveryBlock :
    (let e : SessionEnding := { cause := .byClose 1 };
      (ending e).hl.ending = some e ∧ (ending e).hl.Sound ∧ e.queuesTaken = false ∧ e.portsTaken[(7 : LineNo)] = false
        ∧ e.reportsTaken = false)
      ∧ ((ending (allTaken (.byClose 1))).hl.Sound ∧ (∀ n : LineNo, (allTaken (.byClose 1)).portsTaken[n] = true)
        ∧ (ending (allTaken (.byClose 1))).hl.opensWaiting = [] ∧ (ending (allTaken (.byClose 1))).hl.session = .closed)
      ∧ ((ending (allTaken (.byOpen 1 5))).hl.Sound
        ∧ (ending (allTaken (.byOpen 1 5))).hl.ending = some (allTaken (.byOpen 1 5))
        ∧ (allTaken (.byOpen 1 5)).cause = .byOpen 1 5) :=
  ⟨⟨rfl, ending_sound _, rfl, by decide, rfl⟩, ⟨ending_sound _, by decide, rfl, rfl⟩, ending_sound _, rfl, rfl⟩

/-- A session end that waits for an OPEN or a STATS accepted before it, at RU and at HL; one that has OPENs waiting; one
that every block has taken. -/
theorem witness_SessionEndSettlesEveryBlock_others :
    let e := allTaken (.byClose 1)
    let awaited : State := { ending { e with reportsTaken := false } with hl := { (ending { e with reportsTaken := false }).hl with
      opening := some (opens 9 0 false) } }
    let read : State := { ending e with ru := { (ending e).ru with reads := [⟨9, true, .unit 7⟩] } }
    let waiting : State := { ending e with hl := { (ending e).hl with opensWaiting := [2, 3] } }
    let begun : State := ending { cause := .byClose 1 }
    let behind : State := { begun with hl := { begun.hl with
      handed := handedOver.hl.handed, incoming := [replyPacket 5 0x3B .ok []] } }
    (awaited.hl.Sound ∧ awaited.openAwaitsRU = true ∧ awaited.hl.opening.isSome = true)
      ∧ (read.hl.Sound ∧ read.ru.reads ≠ [])
      ∧ (waiting.hl.Sound ∧ waiting.hl.opensWaiting = 2 :: [3] ∧ waiting.hl.opening = none ∧ waiting.ru.reads = []
        ∧ waiting.hl.session = .closed ∧ waiting.openAwaitsRU = false ∧ waiting.awaited .ru = false
        ∧ waiting.hl.handed = [] ∧ waiting.hl.incoming = [])
      ∧ (behind.hl.ending = some { cause := .byClose 1 } ∧ behind.awaited .qm = true ∧ behind.awaited (.lp 7) = true
        ∧ behind.hl.handed ≠ [] ∧ behind.hl.incoming ≠ [])
      ∧ (e.queuesTaken = true ∧ e.reportsTaken = true ∧ e.portsTaken[(7 : LineNo)] = true) :=
  ⟨⟨ending_sound { allTaken (.byClose 1) with reportsTaken := false }, by decide, rfl⟩,
    ⟨ending_sound (allTaken (.byClose 1)), by decide⟩,
    ⟨ending_sound (allTaken (.byClose 1)), rfl, rfl, rfl, rfl, by decide, by decide, rfl, rfl⟩, by decide,
    rfl, rfl, by decide⟩

/-- A fetch held on queue 0 under tag 9. -/
def heldFetch : State :=
  let s := withQueue { held := some ⟨9, 1, ⟨1000, 1000⟩⟩ }
  { s with hl := { openLink with slots := [⟨9, 0x30⟩] } }

/-- A drain of line 0 attached to the LINE_SET under tag 9. -/
def attachedDrain : State :=
  let s := sendingWith [9] [hostEntry 0] (.sending 0) (some (wire 9)) (some (drain (.attached 9) (some ⟨1, 1000⟩) false))
  { s with hl := { openLink with slots := [⟨9, 0x3A⟩] } }

theorem ready_heldFetch : Ready heldFetch 1 := ⟨⟨rfl, by decide, by decide, by decide⟩, rfl⟩
theorem ready_attachedDrain : Ready attachedDrain 1 := ⟨⟨rfl, by decide, by decide, by decide⟩, rfl⟩

theorem witness_CancelEndsTheRequestItNames :
    (Ready heldFetch 1 ∧ (∃ r ∈ heldFetch.hl.slots, r.tag = 9) ∧ (∃ q, ∃ h ∈ (heldFetch.queue q).held, h.tag = 9)
        ∧ heldFetch.nothingAhead .qm = true)
      ∧ (Ready attachedDrain 1 ∧ (∃ r ∈ attachedDrain.hl.slots, r.tag = 9)
        ∧ (∀ q, (attachedDrain.queue q).held = none)
        ∧ (∀ m, (∃ d ∈ (attachedDrain.port m).drain, d.requester = .attached 9) ↔ m = 0)
        ∧ attachedDrain.nothingAhead (.lp 0) = true)
      ∧ (Ready opened 1 ∧ ∀ r ∈ opened.hl.slots, r.tag ≠ 255) :=
  ⟨⟨ready_heldFetch, ⟨⟨9, 0x30⟩, by decide, rfl⟩, ⟨0, ⟨9, 1, ⟨1000, 1000⟩⟩, rfl, rfl⟩, by decide⟩,
    ⟨ready_attachedDrain, ⟨⟨9, 0x3A⟩, by decide, rfl⟩, by decide +kernel, by decide +kernel, by decide⟩,
    ready_of opened rfl 1 (by decide), by decide⟩

/-- A FETCH and a LINE_SET that their blocks have yet to take, each with a CANCEL behind it; and a FETCH under tag 9 whose
reply is on its way to HL. -/
theorem witness_CancelEndsTheRequestItNames_handed :
    let handed : List (Block × Instr) :=
      [(.qm, .fetch 9 7 8 1), (.lp 7, .lineSet 8 7 ⟨1, 0, 8, 0, 1, 0, 0⟩ 1), (.qm, .cancel 7 9)]
    let s : State := { opened with hl := { openLink with handed := handed, slots := [⟨9, 0x30⟩, ⟨8, 0x3A⟩, ⟨7, 3⟩] } }
    let cancels : State := { heldFetch with hl := { heldFetch.hl with handed := [(.lp 7, .lineGet 8 7), (.qm, .cancel 7 9)] } }
    let answered : State := { opened with hl := { openLink with
      slots := [⟨9, 0x30⟩], incoming := [replyPacket 9 0x30 .queueBusy [7, 0, 0, 0]] } }
    ((handed.find? (fun x => endsByCancel 9 x.2)).map Prod.fst = some .qm
        ∧ (handed.find? (fun x => endsByCancel 8 x.2)).map Prod.fst = some (.lp 7)
        ∧ (∀ q, (s.queue q).held = none) ∧ (∀ n, (s.port n).drain = none) ∧ s.nothingAhead .qm = false)
      ∧ (cancels.hl.handed = [(.lp 7, .lineGet 8 7)] ++ (.qm, .cancel 7 9) :: []
        ∧ (∀ x ∈ [((.lp 7 : Block), Instr.lineGet 8 7)], x.1 ≠ .qm ∧ x.2 ≠ .cancel 7 9) ∧ cancels.openAwaits .qm = false
        ∧ (cancels.queue 0).held = some ⟨9, 1, ⟨1000, 1000⟩⟩)
      ∧ (∀ q, (answered.queue q).held = none) ∧ (∀ n, (answered.port n).drain = none)
      ∧ (∀ x ∈ answered.hl.handed, endsByCancel 9 x.2 = false) := by decide +kernel

theorem witness_CancelEndsTheRequestItNames_ready :
    Ready ({ opened with hl := { openLink with
      handed := [(.qm, .fetch 9 7 8 1)], slots := [⟨9, 0x30⟩] } } : State) 1 := ⟨⟨rfl, by decide, by decide, by decide⟩, rfl⟩

theorem anyPlan_inRange : anyPlan.InRange := ⟨by decide, by decide, by decide, by decide⟩

theorem witness_ArmAppliesOrStagesThePlan :
    anyPlan.InRange ∧ anyPlan.misfit = none ∧ ({ anyPlan with keyOffset := 4 } : Plan).misfit = some 12
      ∧ (ReadyAt opened 1 (.cu 0) ∧ (opened.port 0).lineState = .off)
      ∧ (ReadyAt attachedDrain 1 (.cu 0) ∧ (attachedDrain.port 0).lineState = .draining)
      ∧ (ReadyAt lineOn 1 (.cu 0) ∧ (lineOn.port 0).lineState = .active ∧ (lineOn.unit 0).phase = .disarmed)
      ∧ (ReadyAt collecting 1 (.cu 0) ∧ (collecting.port 0).lineState = .active ∧ (collecting.unit 0).phase = .collecting)
      ∧ (ReadyAt skipping 1 (.cu 0) ∧ (skipping.port 0).lineState = .active ∧ (skipping.unit 0).phase = .skipping) :=
  ⟨anyPlan_inRange, by decide, by decide, ⟨readyAt_of _ rfl 1 (by decide) _, by decide⟩,
    ⟨⟨⟨⟨rfl, by decide, by decide, by decide⟩, rfl⟩, by decide⟩, by decide⟩, ⟨readyAt_of _ rfl 1 (by decide) _, by decide, by decide⟩,
    ⟨readyAt_of _ rfl 1 (by decide) _, by decide, by decide⟩, ⟨readyAt_of _ rfl 1 (by decide) _, by decide, by decide⟩⟩

theorem collecting_unit_sound : (collecting.unit 0).Sound := by unfold CaptureUnit.Sound; decide +kernel
theorem skipping_unit_sound : (skipping.unit 0).Sound := by unfold CaptureUnit.Sound; decide +kernel
theorem lineOn_unit_sound : (lineOn.unit 0).Sound := by unfold CaptureUnit.Sound; decide +kernel
theorem nonzero_of {l : List Half} (h : l.all (· != 0) = true) : ∀ k ∈ l, k ≠ 0 := by simpa using h

theorem lineOn_port_sound : (lineOn.port 0).Sound := by
  rw [lineOn, State.modPort_port_self]
  unfold LinePort.Sound
  and_intros <;> first | exact nonzero_of (by decide +kernel) | decide +kernel

/-- The frame of `collecting`. -/
def frame0 : FrameInProgress := { slot := 0, errorCount := 0, openTime := 0, domain := 0, sequence := 1 }

theorem witness_DisarmEndsCapture :
    (ReadyAt collecting 1 (.cu 0) ∧ collecting.hl.Sound ∧ (collecting.unit 0).Sound ∧ (collecting.unit 0).plan = some anyPlan
        ∧ (collecting.unit 0).frame = some frame0 ∧ ∀ e ∈ (collecting.port 0).txQueue, e.slot ≠ frame0.slot)
      ∧ (ReadyAt skipping 1 (.cu 0) ∧ skipping.hl.Sound ∧ (skipping.unit 0).Sound ∧ (skipping.unit 0).skip.isSome = true)
      ∧ (ReadyAt lineOn 1 (.cu 0) ∧ lineOn.hl.Sound ∧ (lineOn.unit 0).Sound ∧ (lineOn.unit 0).frame = none
        ∧ (lineOn.unit 0).skip = none) :=
  ⟨⟨readyAt_of _ rfl 1 (by decide) _, link_sound_of _ rfl, collecting_unit_sound, by decide, by decide, by decide⟩,
    ⟨readyAt_of _ rfl 1 (by decide) _, link_sound_of _ rfl, skipping_unit_sound, by decide⟩,
    readyAt_of _ rfl 1 (by decide) _, link_sound_of _ rfl, lineOn_unit_sound, by decide, by decide⟩

theorem witness_ReadRequestsChangeNothing : Accepts State.reset 1 ∧ ∀ b, ReadyAt opened 1 b :=
  ⟨accepts_closed 1 (by decide), readyAt_of opened rfl 1 (by decide)⟩

/-- A character under way on line 0. -/
def underWay (s : State) : State := s.modPort 0 (fun p => { p with receiver := .receiving })

theorem underWay_port_sound (p : Plan) : ((underWay (hunting p)).port 0).Sound := by
  show ((State.modPort (State.modUnit (State.modPort _ _ _) _ _) _ _).port 0).Sound
  rw [State.modPort_port_self, State.modUnit_port, State.modPort_port_self]
  unfold LinePort.Sound
  and_intros <;> first | exact nonzero_of (by decide +kernel) | decide +kernel

/-- A GOOD character of the value 0x42 ends on line 0. -/
theorem hears_good (s : State) (h : s.port 0 = { quietPort with receiver := .receiving }) :
    Hears s 0 (.characterReceived 0 0x42 false true) 0x42 .good :=
  .inr ⟨0x42, false, true, rfl, by rw [h], by rw [h]; decide +kernel⟩

theorem witness_GoodCharacterOpensAFrame :
    let lead : Plan := { anyPlan with startForm := .lead, lead := some 0x42 }
    let one : Plan := { anyPlan with limit := 1 }
    (Hears (underWay (hunting anyPlan)) 0 (.characterReceived 0 0x42 false true) 0x42 .good
        ∧ ((underWay (hunting anyPlan)).port 0).Sound)
      ∧ (((underWay (hunting anyPlan)).port 0).handsOn = true ∧ ((underWay (hunting anyPlan)).unit 0).phase = .huntAny
        ∧ ((underWay (hunting anyPlan)).unit 0).frame = none ∧ ((underWay (hunting anyPlan)).unit 0).skip = none
        ∧ 1 < anyPlan.limit.toNat ∧ one.limit = 1 ∧ one.limit ≠ 0
        ∧ (underWay (hunting anyPlan)).charge (.line 0) < (underWay (hunting anyPlan)).pool.quotas[(0 : LineNo)]
        ∧ ((underWay (hunting anyPlan)).slot 0).state = .free)
      ∧ (((underWay (hunting lead)).unit 0).phase = .huntLead ∧ ((underWay (hunting lead)).unit 0).plan = some lead
        ∧ lead.lead = some 0x42)
      ∧ (let s := { underWay (hunting anyPlan) with
            pool := { slots := Vector.replicate 128 { state := .lent, owner := some (.line 0), data := [1] } } }
        s.pool.quotas[(0 : LineNo)] ≤ s.charge (.line 0))
      ∧ (let s := { underWay (hunting anyPlan) with
            pool := { slots := Vector.replicate 128 { state := .lent, owner := some .host, data := [1] } } }
        s.charge (.line 0) < s.pool.quotas[(0 : LineNo)] ∧ ∀ i, (s.slot i).state ≠ .free) :=
  ⟨⟨hears_good _ (by decide +kernel), underWay_port_sound _⟩, by decide +kernel, by decide +kernel, by decide +kernel,
    by decide +kernel⟩

theorem witness_CharactersAreStoredOrSkipped :
    Hears (underWay collecting) 0 (.characterReceived 0 0x42 false true) 0x42 .good
      ∧ ((underWay collecting).port 0).handsOn = true ∧ ((underWay collecting).unit 0).plan = some anyPlan
      ∧ ((underWay collecting).unit 0).phase = .collecting
      ∧ ((underWay collecting).unit 0).frame = some { slot := 0, errorCount := 0, openTime := 0, domain := 0, sequence := 1 }
      ∧ ((underWay collecting).unit 0).skip = none ∧ ((underWay collecting).port 0).txQueue = []
      ∧ Hears (underWay skipping) 0 (.characterReceived 0 0x42 false true) 0x42 .good
      ∧ ((underWay skipping).unit 0).phase = .skipping ∧ ((underWay skipping).unit 0).skip = some ⟨2, 1⟩
      ∧ ((underWay skipping).unit 0).frame = none
      ∧ ((underWay collecting).port 0) = ((underWay (hunting anyPlan)).port 0) :=
  ⟨hears_good _ (by decide +kernel), by decide +kernel, by decide +kernel, by decide +kernel, by decide +kernel,
    by decide +kernel, by decide +kernel, hears_good _ (by decide +kernel), by decide +kernel, by decide +kernel,
    by decide +kernel, by decide +kernel⟩

theorem witness_ErrorCharacterAbortsTheFrame :
    let s := underWay collecting
    CharStatus.framing ≠ .good ∧ (s.port 0).receiver = .receiving
      ∧ (s.port 0).config.judge 0x42 false false = .ended 0x42 .framing ∧ (s.port 0).handsOn = true
      ∧ (s.unit 0).phase = .collecting ∧ (s.unit 0).plan = some anyPlan ∧ (s.unit 0).staged = none
      ∧ (s.unit 0).frame = some frame0 ∧ (s.unit 0).skip = none ∧ anyPlan.errorPolicy = .abort ∧ anyPlan.again = .continuous
      ∧ (∀ e ∈ (s.port 0).txQueue, e.slot ≠ frame0.slot)
      ∧ ((s.modPort 0 (fun p => { p with receiver := .candidate })).port 0).receiver = .candidate := by decide +kernel

/-- A plan with a quiet time of 1 TU. -/
def quietPlan (form : StartForm) : Plan := { anyPlan with startForm := form, quiet := some 1 }

theorem witness_GapOrSpanExpiryClosesTheFrame :
    (((collecting.pass 500).unit 0).gap = some ⟨0, 100⟩
        ∧ (((collecting.modUnit 0 (fun u => { u with gap := none })).pass 900).unit 0).span = some ⟨0, 100⟩ ∧ (collecting.unit 0).plan = some anyPlan
        ∧ (collecting.unit 0).frame = some frame0 ∧ ∀ e ∈ (collecting.port 0).txQueue, e.slot ≠ frame0.slot)
      ∧ (((skipping.pass 600).unit 0).gap = some ⟨0, 0⟩ ∧ (skipping.unit 0).plan = some anyPlan
        ∧ (skipping.unit 0).skip.isSome = true) := by decide +kernel

theorem witness_GapOrSpanExpiryClosesTheFrame_units : (collecting.unit 0).Sound ∧ (skipping.unit 0).Sound :=
  ⟨collecting_unit_sound, skipping_unit_sound⟩

theorem witness_FrameTakenParksOrDrops :
    ((handed []).re.handed.find? (fun x => x.line == 0) = some handedFrame
        ∧ keyOf ((handed []).slot 0).data 0 .one = none ∧ handedFrame.shortPolicy = .discard)
      ∧ (keyOf ((handed [7]).slot 0).data 0 .one = some 7 ∧ (handed [7]).re.parks.length < 16
        ∧ (handed [7]).re.parkNumber ∉ (handed [7]).re.parks.map ParkRecord.number
        ∧ (handed [7]).oldestOf 0 .one 7 = none ∧ ∀ j, (handed [7]).servesAt j 7 .one 0 = false)
      ∧ (let s := { handed [7] with re := { (handed [7]).re with
            parks := List.replicate 15 { parkRecord 9 .miss with slot := 5 } } }
        keyOf (s.slot 0).data 0 .one = some 7 ∧ s.re.parks.length < 16
          ∧ s.re.parkNumber ∉ s.re.parks.map ParkRecord.number ∧ (s.oldestOf 0 .one 7).isSome = true)
      ∧ (let s := { handed [7] with re := { (handed [7]).re with
            parks := List.replicate 16 { parkRecord 9 .miss with slot := 5 } } }
        16 ≤ s.re.parks.length ∧ (s.oldestOf 0 .one 7).isSome = true ∧ handedFrame.overflow = .drop)
      ∧ (let s := (handed [7]).setRoute 47 (some { entry7 with state := .suspended })
        s.oldestOf 0 .one 7 = none ∧ (List.finRange 48).find? (fun j => s.servesAt j 7 .one 0) = some 47
          ∧ s.route 47 = some { entry7 with state := .suspended }) := by
  decide +kernel

/-- The oldest frame of line 0 stands behind one of line 7 and before a second one of its own. -/
theorem witness_FrameTaken_behind_another_unit :
    let s : State := { handed [7] with re := { (handed [7]).re with
      handed := [{ handedFrame with line := 7, slot := 7 }, handedFrame, { handedFrame with slot := 1 }] } }
    s.re.handed.find? (fun x => x.line == 0) = some handedFrame
      ∧ s.re.handed.eraseP (fun x => x.line == 0)
        = [{ handedFrame with line := 7, slot := 7 }, { handedFrame with slot := 1 }] := by decide +kernel

theorem witness_FrameTakenIsDispatched :
    let s := (handed [7]).setRoute 47 (some entry7)
    s.re.handed.find? (fun x => x.line == 0) = some handedFrame ∧ (s.slot handedFrame.slot).record.line = 0
      ∧ (s.slot handedFrame.slot).state ≠ .free
      ∧ keyOf (s.slot handedFrame.slot).data handedFrame.keyOffset handedFrame.keyWidth = some 7
      ∧ s.oldestOf handedFrame.line handedFrame.keyWidth 7 = none
      ∧ (List.finRange 48).find? (fun j => s.servesAt j 7 handedFrame.keyWidth handedFrame.domain) = some 47
      ∧ s.route 47 = some entry7 ∧ entry7.state = .active ∧ entry7.action = .deliver 0
      ∧ ({ entry7 with action := .mirror 7 7, rewrite := some 0xFF } : RouteEntry).action = .mirror 7 7
      ∧ s.charge (.line 0) < s.pool.quotas[(0 : LineNo)] ∧ (s.slot 1).state = .free := by decide +kernel

/-- Every slot charged to the host, and used up to a state. -/
def usedUp (o : Option Owner) : State :=
  { lineOn with pool := { lineOn.pool with slots := Vector.replicate 128 { state := .lent, owner := o, data := [1] } } }

theorem witness_ClaimTestsQuotaThenFreeSlots :
    SlotState.withRE ≠ .free
      ∧ (usedUp (some .host)).quotaOf .host ≤ (usedUp (some .host)).charge .host
      ∧ ((usedUp none).charge .host < (usedUp none).quotaOf .host ∧ (usedUp none).freeSlots = 0)
      ∧ (opened.charge .host < opened.quotaOf .host ∧ 0 < opened.freeSlots) := by decide +kernel

/-- An install of the entry for key 7, scope domain 0. -/
def install7 (index : Option RouteNo) (state : EntryState) : InstallParams :=
  { index := index, key := 7, width := .one, scope := .domain 0, action := .deliver 0, rewrite := none, pinned := false,
    state := state }

theorem witness_RouteInstallWritesTheEntry :
    (ReadyAt (parked [parkRecord 1 .miss]) 1 .re ∧ (parked [parkRecord 1 .miss]).openAwaitsRE = false
        ∧ (parked [parkRecord 1 .miss]).hl.Sound)
      ∧ (install7 none .suspended).misfit = none
      ∧ (parked [parkRecord 1 .miss]).installTarget none = some 0
      ∧ (parked [parkRecord 1 .miss]).conflictWith 0 (install7 none .suspended) = none
      ∧ ((parked [parkRecord 1 .miss]).re.parks.map ParkRecord.number).Nodup
      ∧ (ReadyAt lineOn 1 .re ∧ lineOn.openAwaitsRE = false ∧ lineOn.hl.Sound ∧ lineOn.installTarget (some 47) = some 47
        ∧ lineOn.conflictWith 47 (install7 (some 47) .active) = none ∧ lineOn.re.parks = []) :=
  ⟨⟨readyAt_of _ rfl 1 (by decide) _, rfl, link_sound_of _ rfl⟩, by decide, by decide +kernel, by decide +kernel, by decide +kernel,
    readyAt_of _ rfl 1 (by decide) _, rfl, link_sound_of _ rfl, by decide +kernel, by decide +kernel, by decide +kernel⟩

/-- A full table of entries for other keys. -/
def fullTable (pinned : Bool) : State :=
  { lineOn with re := { lineOn.re with routes := Vector.replicate 48 (some { entry7 with key := 900, pinned := pinned }) } }

theorem witness_RouteInstallTargetsAndRefusals :
    (ReadyAt lineOn 1 .re ∧ lineOn.openAwaitsRE = false ∧ ({ install7 none .active with key := 256 } : InstallParams).misfit = some 2
        ∧ ({ install7 none .active with rewrite := some 0 } : InstallParams).misfit = some 8)
      ∧ (ReadyAt (fullTable true) 1 .re ∧ (fullTable true).openAwaitsRE = false ∧ (install7 none .active).misfit = none
        ∧ ∀ j, ∃ e, (fullTable true).route j = some e ∧ e.pinned = true)
      ∧ (ReadyAt (lineOn.setRoute 47 (some entry7)) 1 .re ∧ (lineOn.setRoute 47 (some entry7)).openAwaitsRE = false
        ∧ (lineOn.setRoute 47 (some entry7)).installTarget (some 0) = some 0
        ∧ (lineOn.setRoute 47 (some entry7)).conflictWith 0 (install7 (some 0) .active) = some 47)
      ∧ (lineOn.installTarget none = some 0 ∧ lineOn.route 0 = none)
      ∧ ((fullTable false).installTarget none = some 0 ∧ ((fullTable false).route 0).isSome = true)
      ∧ (fullTable true).installTarget none = none := by
  refine ⟨⟨readyAt_of _ rfl 1 (by decide) _, rfl, by decide, by decide⟩, ⟨readyAt_of _ rfl 1 (by decide) _, rfl, by decide, fun j => ?_⟩,
    ⟨readyAt_of _ rfl 1 (by decide) _, rfl, by decide +kernel, by decide +kernel⟩, by decide +kernel, by decide +kernel,
    by decide +kernel⟩
  exact ⟨{ entry7 with key := 900, pinned := true }, by simp [fullTable, State.route], rfl⟩

theorem witness_InstallReleasesEveryMatch :
    let s := parked [parkRecord 1 .miss]
    ReadyAt s 1 .re ∧ s.openAwaitsRE = false ∧ s.hl.Sound ∧ (install7 none .active).misfit = none ∧ s.installTarget none = some 0
      ∧ s.conflictWith 0 (install7 none .active) = none ∧ (install7 none .active).state = .active :=
  ⟨readyAt_of _ rfl 1 (by decide) _, rfl, link_sound_of _ rfl, by decide, by decide +kernel, by decide +kernel, rfl⟩

theorem witness_RouteRemoveFreesTheEntry :
    ReadyAt lineOn 1 .re ∧ lineOn.openAwaitsRE = false ∧ 255 < (256 : Half).toNat ∧ (255 : Half).toNat ≤ 255
      ∧ (lineOn.setRoute 47 (some entry7)).removeTarget (.byKey 7 .one .shared) = some 47
      ∧ lineOn.removeTarget (.byIndex 47) = none :=
  ⟨readyAt_of _ rfl 1 (by decide) _, rfl, by decide, by decide, by decide +kernel, by decide +kernel⟩

theorem witness_RouteFlushRemovesTheScope :
    ReadyAt (fullTable true) 1 .re ∧ (fullTable true).openAwaitsRE = false ∧ (fullTable true).hl.Sound :=
  ⟨readyAt_of _ rfl 1 (by decide) _, rfl, link_sound_of _ rfl⟩

theorem witness_RouteStateSuspendsEntries :
    (ReadyAt lineOn 1 .re ∧ lineOn.openAwaitsRE = false ∧ lineOn.route 47 = none)
      ∧ (ReadyAt (lineOn.setRoute 0 (some entry7)) 1 .re ∧ (lineOn.setRoute 0 (some entry7)).openAwaitsRE = false
        ∧ (lineOn.setRoute 0 (some entry7)).route 0 = some entry7
        ∧ entry7.state = .active) :=
  ⟨⟨readyAt_of _ rfl 1 (by decide) _, rfl, by decide +kernel⟩, readyAt_of _ rfl 1 (by decide) _, rfl, by decide +kernel, rfl⟩

theorem witness_ResumeReleasesEveryHeldFrame :
    let s := (parked [parkRecord 1 (.suspended 0)]).setRoute 0 (some { entry7 with state := .suspended })
    ReadyAt s 1 .re ∧ s.openAwaitsRE = false ∧ s.hl.Sound ∧ s.route 0 = some { entry7 with state := .suspended }
      ∧ ({ entry7 with state := .suspended } : RouteEntry).state = .suspended :=
  ⟨readyAt_of _ rfl 1 (by decide) _, rfl, link_sound_of _ rfl, by decide +kernel, rfl⟩

theorem witness_ParkResolveDispatchesTheHead :
    let one := parked [parkRecord 65535 .miss]
    let two := parked [parkRecord 1 .miss, parkRecord 2 .order]
    (ReadyAt one 1 .re ∧ one.openAwaitsRE = false ∧ one.hl.Sound ∧ (∀ r ∈ one.re.parks, r.number ≠ 1))
      ∧ (ReadyAt two 1 .re ∧ two.openAwaitsRE = false ∧ two.re.parks.find? (fun r => r.number == 2) = some (parkRecord 2 .order)
        ∧ two.oldestOf 0 .one 7 = some (parkRecord 1 .miss))
      ∧ (one.re.parks.find? (fun r => r.number == 65535) = some (parkRecord 65535 .miss)
        ∧ (parkRecord 65535 .miss).reason ≠ .order
        ∧ (∀ g ∈ one.re.parks, g.number ≠ 65535 → g.inGroup 0 .one 7 = false)
        ∧ (one.queue 7).count < (one.queue 7).capacity ∧ (one.queue 7).held = none
        ∧ (one.port 7).lineState ≠ .active) :=
  ⟨⟨readyAt_of _ rfl 1 (by decide) _, rfl, link_sound_of _ rfl, by decide +kernel⟩,
    ⟨readyAt_of _ rfl 1 (by decide) _, rfl, by decide +kernel, by decide +kernel⟩, by decide +kernel⟩

/-- The head of a group of three, with a full queue 7, a fetch held on queue 6, and line 0 ACTIVE. -/
theorem witness_ParkResolveDispatchesTheHead_group :
    let s := ((parked [parkRecord 1 .miss, parkRecord 2 .order, parkRecord 65535 .order]).modQueue 7
      (fun d => { d with capacity := 1, waiting := [5] })).modQueue 6 (fun d => { d with held := some ⟨9, 8, ⟨1000, 1000⟩⟩ })
    (Ready s 1 ∧ s.openAwaitsRE = false ∧ s.hl.Sound) ∧ s.re.parks.find? (fun r => r.number == 1) = some (parkRecord 1 .miss)
      ∧ (parkRecord 1 .miss).reason ≠ .order ∧ s.oldestOf 0 .one 7 = some (parkRecord 1 .miss)
      ∧ ¬(s.queue 7).count < (s.queue 7).capacity ∧ (s.queue 6).held = some ⟨9, 8, ⟨1000, 1000⟩⟩
      ∧ (s.port 0).lineState = .active ∧ (s.port 0).txQueue.length < 16 :=
  ⟨⟨ready_of _ rfl 1 (by decide), rfl, link_sound_of _ rfl⟩, by decide +kernel⟩

theorem witness_SettingsAreReplaced :
    (∀ b, ReadyAt opened 255 b) ∧ 1 ≤ (1 : Byte).toNat ∧ (128 : Byte).toNat ≤ 128 ∧ (65535 : Half) ≠ 0
      ∧ (64 : Byte).toNat ≤ 64 :=
  ⟨readyAt_of _ rfl 255 (by decide), by decide, by decide, by decide, by decide⟩

theorem witness_ParkExpiryDropsTheFrame :
    let two := (parked [parkRecord 1 .miss, parkRecord 2 .order]).pass 500000
    let ripe (number : Half) (reason : ParkReason) : ParkRecord := { parkRecord number reason with timer := ⟨0, 1000⟩ }
    two.re.parks.find? (fun g => g.number == 2) = some (ripe 2 .order)
      ∧ two.re.parks.find? (fun g => g.number == 1) = some (ripe 1 .miss) := by decide +kernel

theorem witness_FetchLendsOrWaits :
    (1 ≤ (1 : Byte).toNat ∧ (8 : Byte).toNat ≤ 8 ∧ (30000 : Half).toNat ≤ 30000)
      ∧ (ReadyAt heldFetch 1 .qm ∧ heldFetch.hl.Sound ∧ (heldFetch.queue 0).held.isSome = true)
      ∧ (let s := withQueue { lent := [0, 1, 2, 3, 4, 5, 6, 7] }
        ReadyAt s 1 .qm ∧ s.hl.Sound ∧ (s.queue 0).held = none ∧ 8 ≤ (s.queue 0).lent.length)
      ∧ (let s := withQueue { lent := [0, 1, 2, 3, 4, 5, 6] }
        ReadyAt s 1 .qm ∧ s.hl.Sound ∧ (s.queue 0).held = none ∧ (s.queue 0).lent.length < 8 ∧ (s.queue 0).waiting = [])
      ∧ (let s := withQueue { waiting := [9], lent := [0, 1, 2, 3, 4, 5, 6] }
        ReadyAt s 1 .qm ∧ s.hl.Sound ∧ (s.queue 0).held = none ∧ (s.queue 0).lent.length < 8 ∧ (s.queue 0).waiting ≠ []
          ∧ (∀ i, (s.slot i).data.length ≤ 255) ∧ ((s.queue 0).lent ++ (s.queue 0).waiting).Nodup)
      ∧ ((heldFetch.pass 1000).queue 0).held = some ⟨9, 1, ⟨0, 1000⟩⟩ := by
  refine ⟨by decide, ⟨⟨⟨⟨rfl, by decide, by decide, by decide⟩, rfl⟩, by decide⟩, ?_, rfl⟩,
    ⟨readyAt_of _ rfl 1 (by decide) _, link_sound_of _ rfl, by decide, by decide⟩,
    ⟨readyAt_of _ rfl 1 (by decide) _, link_sound_of _ rfl, by decide, by decide, by decide⟩,
    ⟨readyAt_of _ rfl 1 (by decide) _, link_sound_of _ rfl, by decide, by decide, by decide, by decide +kernel,
      by decide +kernel⟩, by decide +kernel⟩
  exact link_sound ⟨by decide, by decide, by decide⟩ rfl rfl rfl ⟨rfl, rfl⟩ fun _ => rfl

/-- Two frames of queue 0 lent under the numbers 1 and 65535. -/
def lentPair (held : Option HeldFetch) : State :=
  ((withQueue { lent := [0, 1], held := held }).modRecord 0 (fun r => { r with deliveryNumber := 1 })).modRecord 1
    (fun r => { r with deliveryNumber := 65535 })

theorem witness_ReleaseFreesAndReturnRequeues :
    (ReadyAt (lentPair none) 1 .qm ∧ (lentPair none).hl.Sound)
      ∧ (([1] ++ (1 : Half) :: [2, 3, 4, 5, 6, 7]).length ≤ 8 ∧ (0 : Half) ∉ [1] ++ 1 :: [2, 3, 4, 5, 6, 7]
        ∧ [(1 : Half)].Nodup ∧ (1 : Half) ∈ [(1 : Half)])
      ∧ (([1] ++ (2 : Half) :: []).Nodup ∧ (1 : Half) ∈ (lentPair none).lentNumbers 0
        ∧ (2 : Half) ∉ (lentPair none).lentNumbers 0)
      ∧ ((65535 : Half) ∈ (lentPair none).lentNumbers 0
        ∧ ((lentPair none).queue 0).lent.filter
            (fun i => [(65535 : Half)].contains ((lentPair none).slot i).record.deliveryNumber) = [1])
      ∧ ((lentPair none).queue 0).held = none
      ∧ (ReadyAt (lentPair (some ⟨9, 1, ⟨1000, 1000⟩⟩)) 1 .qm
        ∧ ((lentPair (some ⟨9, 1, ⟨1000, 1000⟩⟩)).queue 0).held = some ⟨9, 1, ⟨1000, 1000⟩⟩
        ∧ ((lentPair (some ⟨9, 1, ⟨1000, 1000⟩⟩)).queue 0).lent = [0, 1]
        ∧ ∀ i, ((lentPair (some ⟨9, 1, ⟨1000, 1000⟩⟩)).slot i).data.length ≤ 255) :=
  ⟨⟨readyAt_of _ rfl 1 (by decide) _, link_sound_of _ rfl⟩, by decide, by decide +kernel, by decide +kernel, by decide +kernel,
    readyAt_of _ rfl 1 (by decide) _, by decide +kernel, by decide +kernel, by decide +kernel⟩

/-- Line 0 with 16 entries. -/
def sixteen : State := sendingWith [9] (List.replicate 16 { hostEntry 0 with origin := .route .hostDecision }) (.sending 0)
  (some (wire 9)) none

theorem sixteen_port_sound : (sixteen.port 0).Sound := by
  rw [sixteen, sendingWith, State.modPort_port_self]
  unfold LinePort.Sound
  and_intros <;> first | exact nonzero_of (by decide +kernel) | decide +kernel

theorem usedUp_port_sound (o : Option Owner) : ((usedUp o).port 0).Sound := lineOn_port_sound

theorem attachedDrain_port_sound : (attachedDrain.port 0).Sound := by
  show ((sendingWith _ _ _ _ _).port 0).Sound
  rw [sendingWith, State.modPort_port_self]
  unfold LinePort.Sound
  and_intros <;> first | exact nonzero_of (by decide +kernel) | decide +kernel

theorem witness_TransmitQueuesTheData :
    (1 ≤ [(0 : Byte)].length ∧ (List.replicate 255 (0 : Byte)).length ≤ 255)
      ∧ (ReadyAt opened 1 (.lp 0) ∧ opened.hl.Sound ∧ (opened.port 0).Sound ∧ (opened.port 0).lineState = .off)
      ∧ (ReadyAt attachedDrain 1 (.lp 0) ∧ (attachedDrain.port 0).Sound ∧ (attachedDrain.port 0).lineState = .draining)
      ∧ (ReadyAt sixteen 1 (.lp 0) ∧ sixteen.hl.Sound ∧ (sixteen.port 0).Sound ∧ (sixteen.port 0).lineState = .active
        ∧ (sixteen.port 0).txQueue.length = 16)
      ∧ (ReadyAt (usedUp (some .host)) 1 (.lp 0) ∧ (usedUp (some .host)).hl.Sound ∧ ((usedUp (some .host)).port 0).Sound
        ∧ ((usedUp (some .host)).port 0).lineState = .active ∧ ((usedUp (some .host)).port 0).txQueue.length < 16
        ∧ 32 ≤ (usedUp (some .host)).charge .host)
      ∧ (ReadyAt (usedUp none) 1 (.lp 0) ∧ (usedUp none).hl.Sound ∧ ((usedUp none).port 0).Sound
        ∧ ((usedUp none).port 0).lineState = .active ∧ (usedUp none).charge .host < 32 ∧ (usedUp none).freeSlots = 0)
      ∧ (ReadyAt lineOn 1 (.lp 0) ∧ lineOn.hl.Sound ∧ (lineOn.port 0).Sound ∧ (lineOn.port 0).lineState = .active
        ∧ (lineOn.port 0).txQueue.length < 16 ∧ lineOn.charge .host < 32 ∧ 0 < lineOn.freeSlots
        ∧ (lineOn.port 0).txState = .idle) := by
  refine ⟨by decide +kernel, ⟨readyAt_of _ rfl 1 (by decide) _, link_sound_of _ rfl, ?_, by decide⟩,
    ⟨⟨⟨⟨rfl, by decide, by decide, by decide⟩, rfl⟩, by decide⟩, attachedDrain_port_sound, by decide⟩,
    ⟨readyAt_of _ rfl 1 (by decide) _, link_sound_of _ rfl, sixteen_port_sound, by decide, by decide⟩,
    ⟨readyAt_of _ rfl 1 (by decide) _, link_sound_of _ rfl, usedUp_port_sound _, by decide, by decide, by decide +kernel⟩,
    ⟨readyAt_of _ rfl 1 (by decide) _, link_sound_of _ rfl, usedUp_port_sound _, by decide, by decide +kernel,
      by decide +kernel⟩,
    readyAt_of _ rfl 1 (by decide) _, link_sound_of _ rfl, lineOn_port_sound, by decide, by decide, by decide +kernel,
    by decide +kernel, by decide⟩
  unfold LinePort.Sound
  and_intros <;> first | exact nonzero_of (by decide +kernel) | decide +kernel

/-- Line 0 with one entry in WAIT_QUIET. -/
def waitingQuiet (d : Option Drain) : State :=
  (framed opened .txQueued [9]).modPort 0 (fun _ => portWith [hostEntry 1] .waitQuiet none d (some ⟨100, 100⟩))

theorem waitingQuiet_port_sound : ((waitingQuiet none).port 0).Sound := by
  rw [waitingQuiet, State.modPort_port_self]
  unfold LinePort.Sound
  and_intros <;> first | exact nonzero_of (by decide +kernel) | decide +kernel

theorem draining_port_sound : ((waitingQuiet (some (drain (.attached 9) (some ⟨1, 1000⟩) false))).port 0).Sound := by
  rw [waitingQuiet, State.modPort_port_self]
  unfold LinePort.Sound
  and_intros <;> first | exact nonzero_of (by decide +kernel) | decide +kernel

/-- A character that outlived an abort on line 0, with a drain or without. -/
def trailing (d : Option Drain) : State := sendingWith [] [] .trailing (some (wire 9)) d

theorem trailing_port_sound : ((trailing none).port 0).Sound := by
  rw [trailing, sendingWith, State.modPort_port_self]
  unfold LinePort.Sound
  and_intros <;> first | exact nonzero_of (by decide +kernel) | decide +kernel

theorem trailing_drain_port_sound : ((trailing (some (drain .detached none true))).port 0).Sound := by
  rw [trailing, sendingWith, State.modPort_port_self]
  unfold LinePort.Sound
  and_intros <;> first | exact nonzero_of (by decide +kernel) | decide +kernel

theorem witness_FlushDiscardsWaitingEntries :
    (ReadyAt sixteen 1 (.lp 0) ∧ sixteen.hl.Sound ∧ (sixteen.port 0).Sound ∧ (sixteen.port 0).txState = .sending 0)
      ∧ (ReadyAt (waitingQuiet none) 1 (.lp 0) ∧ ((waitingQuiet none).port 0).Sound
        ∧ ((waitingQuiet none).port 0).split = (none, [hostEntry 1])
        ∧ (∀ k, ((waitingQuiet none).port 0).txState ≠ .sending k) ∧ ((waitingQuiet none).port 0).txState ≠ .trailing)
      ∧ (let s := waitingQuiet (some (drain (.attached 9) (some ⟨1, 1000⟩) false))
        ReadyAt s 1 (.lp 0) ∧ (s.port 0).Sound ∧ (s.port 0).drain = some (drain (.attached 9) (some ⟨1, 1000⟩) false))
      ∧ (let s := sendingWith [9] [hostEntry 0, { hostEntry 0 with slot := 1 }] (.sending 0) (some (wire 9)) none
        ∀ e ∈ (s.port 0).split.2, ∀ a ∈ (s.port 0).split.1, e.slot ≠ a.slot) :=
  ⟨⟨readyAt_of _ rfl 1 (by decide) _, link_sound_of _ rfl, sixteen_port_sound, by decide⟩,
    ⟨readyAt_of _ rfl 1 (by decide) _, waitingQuiet_port_sound, by decide, fun k => by
      show TxState.waitQuiet ≠ .sending k; simp, by decide⟩,
    ⟨readyAt_of _ rfl 1 (by decide) _, draining_port_sound, by decide⟩, by decide +kernel⟩

theorem witness_CharacterSentAdvancesTheTransmitter :
    (let s := sendingWith [8, 9] [hostEntry 0] (.sending 0) (some (wire 8)) none;
        (s.port 0).txState = .sending 0 ∧ (s.port 0).txQueue = [hostEntry 0] ∧ (s.slot 0).data[0 + 1]? = some 9)
      ∧ (let s := sendingWith [9] [hostEntry 0] (.sending 0) (some (wire 9)) none
        (s.port 0).txState = .sending 0 ∧ (s.port 0).txQueue = [hostEntry 0] ∧ (s.slot 0).data.length ≤ 0 + 1
          ∧ (s.port 0).drain = none)
      ∧ (let s := (sendingWith [9] [hostEntry 0, { hostEntry 1 with slot := 1 }] (.sending 0) (some (wire 9)) none).modSlot 1
            (fun _ => { state := .txQueued, owner := some .host, data := [5] })
        (s.port 0).txQueue = [hostEntry 0, { hostEntry 1 with slot := 1 }]
          ∧ ∀ a ∈ [({ hostEntry 1 with slot := 1 } : TxEntry)],
            a.slot ≠ (hostEntry 0).slot ∧ (s.slot a.slot).state = .txQueued)
      ∧ ((attachedDrain.port 0).txState = .sending 0
        ∧ (attachedDrain.port 0).drain = some (drain (.attached 9) (some ⟨1, 1000⟩) false))
      ∧ (((trailing none).port 0).txState = .trailing ∧ ((trailing none).port 0).txQueue = []
        ∧ ((trailing none).port 0).drain = none)
      ∧ ((trailing (some (drain .detached none true))).port 0).drain = some (drain .detached none true)
      ∧ (let s := sendingWith [9] [hostEntry 1] .trailing (some (wire 9)) none
        (s.port 0).txState = .trailing ∧ (s.port 0).txQueue = [hostEntry 1] ∧ (s.slot 0).state = .txQueued) := by
  decide +kernel

theorem witness_CharacterSentAdvancesTheTransmitter_ports :
    (attachedDrain.port 0).Sound ∧ ((trailing none).port 0).Sound ∧ (trailing none).hl.Sound
      ∧ ((trailing (some (drain .detached none true))).port 0).Sound :=
  ⟨attachedDrain_port_sound, trailing_port_sound, link_sound_of _ rfl, trailing_drain_port_sound⟩

theorem witness_QuietExpiriesMoveOn :
    ((((hunting (quietPlan .quiet)).pass 100).unit 0).quiet = some ⟨0, 100⟩
        ∧ ((hunting (quietPlan .quiet)).unit 0).plan = some (quietPlan .quiet)
        ∧ (((hunting (quietPlan .quietLead)).pass 200).unit 0).quiet = some ⟨0, 0⟩
        ∧ ((hunting (quietPlan .quietLead)).unit 0).plan = some (quietPlan .quietLead))
      ∧ (((waitingQuiet none).pass 100).port 0).preQuiet = some ⟨0, 100⟩
      ∧ ((waitingQuiet none).port 0).txQueue = [hostEntry 1]
      ∧ ((waitingQuiet none).port 0).Sound ∧ ((waitingQuiet none).slot 0).state = .txQueued :=
  ⟨by decide +kernel, by decide +kernel, by decide +kernel, waitingQuiet_port_sound, by decide +kernel⟩

/-- Line 0 with its receiver in CANDIDATE. -/
def candidate (s : State) : State := s.modPort 0 (fun p => { p with receiver := .candidate, level := .space })

theorem witness_ReceiverFollowsItsSamples :
    (lineOn.port 0).receiver = .idle
      ∧ (let s := lineOn.modPort 0 (fun p => { p with receiver := .waitMark })
        (s.port 0).receiver = .waitMark ∧ (s.port 0).breakInProgress = false)
      ∧ (((underWay lineOn).port 0).receiver = .receiving
        ∧ ((underWay lineOn).port 0).config.judge 0 true false = .allSpace)
      ∧ (((candidate lineOn).port 0).receiver = .candidate ∧ ((candidate lineOn).port 0).txState ≠ .waitTurn)
      ∧ ((underWay lineOn).port 0).config.judge 0 true true = .ended 0 .good
      ∧ (((underWay (waitingQuiet none)).port 0).txState = .waitQuiet
        ∧ ((underWay (waitingQuiet none)).port 0).txQueue = [hostEntry 1])
      ∧ (((underWay attachedDrain).port 0).drain.isSome = true)
      ∧ (((underWay (hunting (quietPlan .quiet))).unit 0).phase = .huntQuiet
        ∧ ((underWay (hunting (quietPlan .quiet))).unit 0).plan = some (quietPlan .quiet)) := by decide +kernel

/-- A space that a FRAMING character has left; error characters and a byte other than the lead byte in HUNT_ANY and
HUNT_LEAD; a half-duplex line that is not sending, and one that is. -/
theorem witness_ReceiverFollowsItsSamples_hunts :
    (let s := lineOn.modPort 0 (fun p => { p with breakWatch := true, level := .space });
        (s.port 0).receiver = .idle ∧ (s.port 0).breakWatch = true)
      ∧ (let s := (underWay (hunting (quietPlan .quiet))).modUnit 0 (fun u => { u with phase := .huntAny, quiet := none })
        (s.port 0).config.judge 0x42 false false = .ended 0x42 .framing ∧ (s.unit 0).phase = .huntAny
          ∧ (s.unit 0).plan = some (quietPlan .quiet) ∧ (s.port 0).drain = none ∧ (s.port 0).config.duplex = .full)
      ∧ (let p := { quietPlan .quietLead with lead := some 1 }
        let s := (underWay (hunting p)).modUnit 0 (fun u => { u with phase := .huntLead, quiet := none })
        (s.port 0).config.judge 2 false true = .ended 2 .good ∧ (s.unit 0).phase = .huntLead ∧ (s.unit 0).plan = some p
          ∧ p.lead ≠ some 2)
      ∧ (let p := { anyPlan with startForm := .brkLead, lead := some 1 }
        let s := (underWay (hunting p)).modUnit 0 (fun u => { u with phase := .huntLead })
        (s.unit 0).phase = .huntLead ∧ (s.unit 0).plan = some p ∧ ((underWay (hunting p)).unit 0).phase = .huntBreak)
      ∧ (let s := (underWay (hunting (quietPlan .quiet))).modPort 0 (fun p => { p with config := { p.config with duplex := .half } })
        (s.port 0).config.duplex = .half ∧ (s.port 0).txState = .idle ∧ (s.unit 0).phase = .huntQuiet)
      ∧ (let s := (underWay (sendingWith [9] [hostEntry 0] (.sending 0) (some (wire 9)) none)).modPort 0
          (fun p => { p with config := { p.config with duplex := .half } })
        (s.port 0).receiver = .receiving ∧ (s.port 0).config.duplex = .half ∧ (s.port 0).txState = .sending 0) := by
  decide +kernel

theorem witness_BreaksAreDetectedAndEnd :
    (((candidate attachedDrain).port 0).receiver = .candidate ∧ ((candidate attachedDrain).port 0).handsOn = false)
      ∧ (let s := lineOn.modPort 0 (fun p => { p with receiver := .waitMark, breakWatch := true })
        (s.port 0).receiver = .waitMark ∧ (s.port 0).breakWatch = true ∧ (s.port 0).handsOn = true
          ∧ (s.port 0).txState ≠ .waitTurn ∧ (s.unit 0).plan = none)
      ∧ (let p := { anyPlan with startForm := .brk }
        ((candidate (hunting p)).unit 0).plan = some p ∧ ((candidate (hunting p)).unit 0).phase = .huntBreak)
      ∧ (let p := { anyPlan with startForm := .brkLead, lead := some 1 }
        ((candidate (hunting p)).unit 0).plan = some p ∧ ((candidate (hunting p)).unit 0).phase = .huntBreak)
      ∧ ((candidate (hunting (quietPlan .quiet))).unit 0).phase = .huntQuiet
      ∧ (((candidate collecting).port 0).handsOn = true ∧ ((candidate collecting).unit 0).phase = .collecting
        ∧ ((candidate collecting).unit 0).frame = some frame0)
      ∧ (let s := (hunting (quietPlan .quiet)).modUnit 0 (fun u => { u with breakInProgress := true, quiet := none })
        let s := s.modPort 0 (fun p => { p with breakInProgress := true, receiver := .waitMark, level := .space })
        (s.port 0).breakInProgress = true ∧ (s.unit 0).breakInProgress = true ∧ (s.unit 0).phase = .huntQuiet
          ∧ (s.unit 0).plan = some (quietPlan .quiet) ∧ (s.unit 0).lineSending = false) := by decide +kernel

/-- A break in the space that a FRAMING character has left; in SKIPPING; in HUNT_ANY and HUNT_LEAD under the QUIET forms; one
detected while a half-duplex line was sending, at its end. -/
theorem witness_BreaksAreDetectedAndEnd_others :
    (let s := lineOn.modPort 0 (fun p => { p with breakWatch := true, level := .space });
        (s.port 0).receiver = .idle ∧ (s.port 0).breakWatch = true ∧ (s.port 0).handsOn = true)
      ∧ (((candidate skipping).port 0).handsOn = true ∧ ((candidate skipping).unit 0).plan = some anyPlan
        ∧ ((candidate skipping).unit 0).phase = .skipping ∧ ((candidate skipping).unit 0).skip = some ⟨2, 1⟩
        ∧ ((candidate skipping).unit 0).frame = none)
      ∧ (let s := (candidate (hunting (quietPlan .quiet))).modUnit 0 (fun u => { u with phase := .huntAny, quiet := none })
        (s.port 0).handsOn = true ∧ (s.unit 0).phase = .huntAny ∧ (quietPlan .quiet).startForm = .quiet)
      ∧ (let s := (candidate (hunting (quietPlan .quietLead))).modUnit 0 (fun u => { u with phase := .huntLead, quiet := none })
        (s.port 0).handsOn = true ∧ (s.unit 0).phase = .huntLead ∧ (quietPlan .quietLead).startForm = .quietLead)
      ∧ (let s := (waitingQuiet none).modPort 0 (fun p => { p with
          breakInProgress := true, breakDeaf := true, receiver := .waitMark, level := .space })
        (s.port 0).breakInProgress = true ∧ (s.port 0).breakDeaf = true ∧ (s.port 0).txState = .waitQuiet
          ∧ (s.unit 0).breakInProgress = false) := by decide +kernel

theorem witness_LineSetAppliesOrDrains :
    (60000 : Half).toNat ≤ 60000
      ∧ (ReadyAt attachedDrain 1 (.lp 0) ∧ (attachedDrain.port 0).Sound ∧ (attachedDrain.port 0).lineState = .draining)
      ∧ (ReadyAt opened 1 (.lp 0) ∧ opened.hl.Sound ∧ (opened.port 0).lineState = .off)
      ∧ (ReadyAt lineOn 1 (.lp 0) ∧ lineOn.hl.Sound ∧ (lineOn.port 0).Sound ∧ (lineOn.unit 0).Sound
        ∧ (lineOn.port 0).lineState = .active ∧ (lineOn.port 0).txQueue = [] ∧ (lineOn.port 0).onWire = none)
      ∧ (ReadyAt sixteen 1 (.lp 0) ∧ sixteen.hl.Sound ∧ (sixteen.port 0).Sound ∧ (sixteen.port 0).lineState = .active
        ∧ ¬((sixteen.port 0).txQueue = [] ∧ (sixteen.port 0).onWire = none))
      ∧ (ReadyAt collecting 1 (.lp 0) ∧ (collecting.unit 0).Sound ∧ (collecting.port 0).lineState = .active
        ∧ (collecting.unit 0).frame = some frame0) :=
  ⟨by decide, ⟨⟨⟨⟨rfl, by decide, by decide, by decide⟩, rfl⟩, by decide⟩, attachedDrain_port_sound, by decide⟩,
    ⟨readyAt_of _ rfl 1 (by decide) _, link_sound_of _ rfl, by decide⟩,
    ⟨readyAt_of _ rfl 1 (by decide) _, link_sound_of _ rfl, lineOn_port_sound, lineOn_unit_sound, by decide, by decide,
      by decide⟩,
    ⟨readyAt_of _ rfl 1 (by decide) _, link_sound_of _ rfl, sixteen_port_sound, by decide, by decide +kernel⟩,
    readyAt_of _ rfl 1 (by decide) _, collecting_unit_sound, by decide, by decide⟩

theorem witness_SwitchingOffEmptiesTheLine :
    ReadyAt sixteen 1 (.lp 0) ∧ sixteen.hl.Sound ∧ (sixteen.port 0).Sound ∧ (sixteen.unit 0).Sound ∧ (60000 : Half).toNat ≤ 60000
      ∧ (sixteen.port 0).lineState = .active ∧ ({} : LineConfig).mode = .off :=
  ⟨readyAt_of _ rfl 1 (by decide) _, link_sound_of _ rfl, sixteen_port_sound, lineOn_unit_sound, by decide, by decide, rfl⟩

theorem witness_DrainLimitCutsTheQueue :
    (((attachedDrain.pass 1).port 0).drain = some (drain (.attached 9) (some ⟨0, 1000⟩) false)
        ∧ (attachedDrain.port 0).Sound
        ∧ (attachedDrain.unit 0).Sound ∧ (attachedDrain.port 0).config.mode = .on
        ∧ (attachedDrain.port 0).onWire.isSome = true)
      ∧ (let s := waitingQuiet (some (drain (.attached 9) (some ⟨1, 1000⟩) false))
        (s.port 0).Sound ∧ s.hl.Sound ∧ (s.unit 0).Sound ∧ (s.port 0).onWire = none) :=
  ⟨⟨by decide +kernel, attachedDrain_port_sound, lineOn_unit_sound, by decide, by decide⟩, draining_port_sound,
    link_sound_of _ rfl, lineOn_unit_sound, by decide⟩

/-- The Report Unit with something raised, reporting on or off, with reports queued. -/
def raised (r : Raised) (reporting : Bool) (queued : Nat) : State :=
  withReports { reporting := reporting, queue := List.replicate queued lossReport, nextSeq := 9, inbox := [(.re, r)] }

theorem witness_ReportsAndLossesAreTaken :
    ((raised (.report (.queueReady 0 1)) false 0).hl.Sound
        ∧ (raised (.report (.queueReady 0 1)) false 0).ru.inbox = [(.re, .report (.queueReady 0 1))]
        ∧ (∀ p ∈ (raised (.report (.queueReady 0 1)) false 0).hl.waiting, p.kind ≠ .report 9)
        ∧ (raised (.report (.queueReady 0 1)) false 0).ru.reporting = false)
      ∧ (32 ≤ (raised (.report (.queueReady 0 1)) true 32).ru.queue.length
        ∧ (raised (.report (.queueReady 0 1)) true 31).ru.queue.length < 32)
      ∧ ((raised (.loss .quota 7) true 31).hl.Sound ∧ (raised (.loss .quota 7) true 31).ru.inbox = [(.re, .loss .quota 7)]
        ∧ (raised (.loss .quota 7) true 31).ru.reporting = true ∧ (raised (.loss .quota 7) true 31).ru.lossPending = false
        ∧ (raised (.loss .quota 7) true 31).ru.queue.length < 32 ∧ 32 ≤ (raised (.loss .quota 7) true 32).ru.queue.length
        ∧ (raised (.loss .quota 7) false 0).ru.reporting = false) :=
  ⟨⟨link_sound_of _ rfl, rfl, by decide, rfl⟩, by decide, link_sound_of _ rfl, rfl, rfl, rfl, by decide, by decide, rfl⟩

/-- Items behind another block's, and behind a loss of the same block that the other taker has yet to take. -/
theorem witness_ReportsAndLossesAreTaken_behind :
    let front : List (Source × Raised) := [(.qm, .loss .queueFull 0), (.re, .loss .keyShort 3 .lp)]
    let report : State := withReports { inbox := front ++ (.re, .report (.queueReady 0 1)) :: [(.re, .loss .quota 7)] }
    let loss : State := withReports { inbox := front ++ (.re, .loss .parkFull 0) :: [] }
    let line : State := withReports
      { inbox := [(.re, .report (.queueReady 0 1)), (.re, .loss .keyShort 0)] ++ (.re, .loss .parkFull 7 .lp) :: [] }
    (report.hl.Sound ∧ report.ru.inbox = front ++ (.re, .report (.queueReady 0 1)) :: [(.re, .loss .quota 7)]
        ∧ ∀ x ∈ front, x.1 = .re → x.2.waitsForRU = false)
      ∧ (loss.hl.Sound ∧ loss.ru.inbox = front ++ (.re, .loss .parkFull 0 .both) :: [] ∧ LossWait.both ≠ .lp)
      ∧ (line.ru.inbox = [(.re, .report (.queueReady 0 1)), (.re, .loss .keyShort 0)] ++ (.re, .loss .parkFull 7 .lp) :: []
        ∧ (∀ x ∈ [((.re : Source), Raised.report (.queueReady 0 1)), (.re, .loss .keyShort 0)],
          x.1 = .re → x.2.waitsForLP 7 = false)
        ∧ LossWait.lp ≠ .ru) :=
  ⟨⟨link_sound_of _ rfl, rfl, by decide⟩, ⟨link_sound_of _ rfl, rfl, by decide⟩, rfl, by decide, by decide⟩

theorem witness_AckRemovesAndResendRepeats :
    let s := withReports { reporting := true, queue := [lossReport, { lossReport with sequence := 2 }], nextSeq := 3 }
    let lost := withReports { reporting := true, queue := [lossReport], nextSeq := 2, lost := 65535 }
    (ReadyAt s 1 .ru ∧ s.hl.Sound ∧ (65535 : Half) ≠ 0 ∧ ∀ r ∈ s.ru.queue, r.sequence ≠ 65535)
      ∧ (s.ru.queue = [lossReport] ++ { lossReport with sequence := 2 } :: [] ∧ (2 : Half) ≠ 0
        ∧ (∀ x ∈ [lossReport], x.sequence ≠ 2) ∧ (∀ p ∈ s.hl.waiting, p.kind ≠ .report 3) ∧ s.ru.lost = 0)
      ∧ (lost.ru.queue = [] ++ lossReport :: [] ∧ lost.ru.lost ≠ 0)
      ∧ (s.ru.queue.map QueuedReport.sequence).Nodup ∧ s.openAwaitsRU = false :=
  ⟨⟨readyAt_of _ rfl 1 (by decide) _, link_sound_of _ rfl, by decide, by decide⟩,
    ⟨rfl, by decide, by decide, by decide, rfl⟩, ⟨rfl, by decide⟩, by decide, by decide⟩

/-- Reads that wait at a Capture Unit, at its Line Port, at QM and at FP. -/
theorem witness_StatsReadsAndClears :
    let reads : List StatsRead := [⟨7, true, .unit 7⟩, ⟨8, false, .port 7 {}⟩, ⟨9, true, .queue 7⟩, ⟨10, true, .pool⟩]
    let s : State := { opened with
      hl := { openLink with slots := [⟨7, 0x42⟩, ⟨8, 0x42⟩, ⟨9, 0x42⟩, ⟨10, 0x42⟩] }, ru := { opened.ru with reads := reads } }
    ReadyAt opened 1 .ru
      ∧ s.hl.Sound
      ∧ (s.ru.reads = [] ++ ⟨7, true, .unit 7⟩ :: reads.drop 1 ∧ ∀ x ∈ [] ++ reads.drop 1, x.tag ≠ 7)
      ∧ (s.ru.reads = reads.take 1 ++ ⟨8, false, .port 7 {}⟩ :: reads.drop 2
        ∧ ∀ x ∈ reads.take 1 ++ reads.drop 2, x.tag ≠ 8)
      ∧ (s.ru.reads = reads.take 2 ++ ⟨9, true, .queue 7⟩ :: reads.drop 3
        ∧ ∀ x ∈ reads.take 2 ++ reads.drop 3, x.tag ≠ 9)
      ∧ (s.ru.reads = reads.take 3 ++ ⟨10, true, .pool⟩ :: [] ∧ ∀ x ∈ reads.take 3 ++ [], x.tag ≠ 10) :=
  ⟨readyAt_of opened rfl 1 (by decide) _,
    link_sound ⟨by decide, by decide, by decide⟩ rfl rfl rfl ⟨rfl, rfl⟩ (fun _ => rfl),
    ⟨rfl, by decide⟩, ⟨rfl, by decide⟩, ⟨rfl, by decide⟩, rfl, by decide⟩

theorem witness_ResetIsSound :
    (∃ t, exec (.powerUp ⟨false, false⟩) collecting = .next t)
      ∧ ∃ t p, sendingReset.hl.sending = some p ∧ p.kind = .resetReply
        ∧ exec (.packetSent ⟨false, false⟩) sendingReset = .next t := ⟨⟨_, rfl⟩, _, _, rfl, rfl, rfl⟩

/-! ### A sound state that steps, for the invariants -/

/-- A line collecting a frame, whose gap timer expires next. -/
def soundState : State := { collecting with pending := [.gapTimerExpiry 0 500 false] }

theorem soundState_slots : soundState.SlotsSound := by unfold State.SlotsSound; decide +kernel
theorem soundState_session : soundState.SessionSound := by
  unfold State.SessionSound; and_intros <;> first | exact trivial | decide +kernel

theorem soundState_lines : soundState.LinesSound := by
  have others : ∀ n : LineNo, n ≠ 0 → soundState.port n = {} ∧ soundState.unit n = {} := by decide +kernel
  intro n
  by_cases h : n = 0
  · subst h
    exact ⟨collecting_unit_sound, lineOn_port_sound, show CaptureState.collecting ≠ .paused by decide⟩
  · rw [(others n h).1, (others n h).2]
    exact ⟨by unfold CaptureUnit.Sound; decide, by unfold LinePort.Sound; and_intros <;> first | exact nonzero_of (by decide) | decide, rfl⟩

theorem soundState_pool : soundState.PoolSound := by unfold State.PoolSound; decide +kernel
theorem soundState_ranges : soundState.RangesSound := by unfold State.RangesSound; decide +kernel
theorem soundState_timers : soundState.TimersSound := by unfold State.TimersSound; decide +kernel
theorem soundState_reasons : soundState.ReasonsSound := fun _ hr => nomatch hr
theorem witness_StepKeepsRoutesDisjoint :
    soundState.RoutesSound ∧ let s : State := { soundState with re := { soundState.re with
      routes := soundState.re.routes.set 0 (some (InstallParams.entry
        { index := none, key := 5, width := .one, scope := .shared, action := .discard, rewrite := none, pinned := false,
          state := .active } 1)) } }
    s.RoutesSound ∧ s.servesAt 0 5 .one 15 = true := by unfold State.RoutesSound; decide +kernel
theorem soundState_groups : soundState.GroupsSound := by unfold State.GroupsSound; decide +kernel
theorem soundState_routes : soundState.RoutesSound := by unfold State.RoutesSound; decide +kernel

theorem witness_sound_state_steps : soundState.Sound ∧ ∃ t, step soundState = .next t :=
  ⟨⟨link_sound_of _ rfl, soundState_slots, soundState_session, soundState_lines, soundState_pool, soundState_ranges,
    soundState_timers, soundState_groups, soundState_routes, soundState_reasons⟩, ⟨_, rfl⟩⟩

end Sys2Proof.Tests
end

section
/-! PROOFS. The ERROR close of a frame (01_frame_capture.md, R22, R24): what the end of a character hands to the unit, what a
re-arm does, what the close does, and the turn that a transmitter in WAIT_TURN then takes (R116). -/

namespace Sys2Proof.Machine

section Rules

variable (s : State) (n : LineNo)

/-! ### The turn that the end of a frame or skip frees (R116, R117) -/

theorem State.enterSending_slot_of_not_queued {j : SlotNo} (h : ∀ e ∈ (s.port n).txQueue, e.slot ≠ j) :
    (s.enterSending n).slot j = s.slot j := by
  unfold State.enterSending
  split
  · rfl
  · next e rest queued =>
    have other : j ≠ e.slot := (h e (by simp [queued])).symm
    dsimp only
    split <;> simp [State.slotTo, State.modSlot_slot_ne _ _ _ _ other]

/-- SENDING moves the head's slot to another state; every slot keeps its bytes and its charge. -/
theorem State.enterSending_slot_data_owner (j : SlotNo) :
    ((s.enterSending n).slot j).data = (s.slot j).data ∧ ((s.enterSending n).slot j).owner = (s.slot j).owner := by
  unfold State.enterSending
  split
  · exact ⟨rfl, rfl⟩
  · next e rest queued =>
    have kept : ((s.slotTo e.slot .sending).slot j).data = (s.slot j).data
        ∧ ((s.slotTo e.slot .sending).slot j).owner = (s.slot j).owner := by
      by_cases hj : j = e.slot
      · subst hj; simp [State.slotTo]
      · simp [State.slotTo, State.modSlot_slot_ne _ _ _ _ hj]
    dsimp only
    split <;> simpa using kept

theorem State.enterSending_unit_ne {m : LineNo} (h : m ≠ n) : (s.enterSending n).unit m = s.unit m := by
  unfold State.enterSending
  split
  · rfl
  · dsimp only
    split <;> simp [State.modUnit_unit_ne _ _ _ _ h]

theorem State.enterSending_port_ne {m : LineNo} (h : m ≠ n) : (s.enterSending n).port m = s.port m := by
  unfold State.enterSending
  split
  · rfl
  · dsimp only
    split <;> simp [State.modPort_port_ne _ _ _ _ h]

/-- The unit is told of SENDING on a half-duplex line only (R29). -/
theorem State.enterSending_unit_self :
    (s.enterSending n).unit n = s.unit n ∨ (s.enterSending n).unit n = (s.unit n).beginSending := by
  unfold State.enterSending
  split
  · exact .inl rfl
  · dsimp only
    split <;> simp

theorem State.turnFreed_of_not_waiting (h : (s.port n).txState ≠ .waitTurn) : s.turnFreed n = s := by
  simp [State.turnFreed, State.turnWaits, h]

theorem State.turnFreed_cases : s.turnFreed n = s ∨ s.turnFreed n = s.enterSending n := by
  unfold State.turnFreed
  split
  · exact .inr rfl
  · exact .inl rfl

theorem State.turnFreed_slot_of_not_queued {j : SlotNo} (h : ∀ e ∈ (s.port n).txQueue, e.slot ≠ j) :
    (s.turnFreed n).slot j = s.slot j := by
  rcases s.turnFreed_cases n with same | sends
  · rw [same]
  · rw [sends, s.enterSending_slot_of_not_queued n h]

theorem State.turnFreed_slot_data_owner (j : SlotNo) :
    ((s.turnFreed n).slot j).data = (s.slot j).data ∧ ((s.turnFreed n).slot j).owner = (s.slot j).owner := by
  rcases s.turnFreed_cases n with same | sends
  · simp [same]
  · rw [sends]; exact s.enterSending_slot_data_owner n j

theorem State.turnFreed_unit_ne {m : LineNo} (h : m ≠ n) : (s.turnFreed n).unit m = s.unit m := by
  rcases s.turnFreed_cases n with same | sends
  · rw [same]
  · rw [sends, s.enterSending_unit_ne n h]

theorem State.turnFreed_port_ne {m : LineNo} (h : m ≠ n) : (s.turnFreed n).port m = s.port m := by
  rcases s.turnFreed_cases n with same | sends
  · rw [same]
  · rw [sends, s.enterSending_port_ne n h]

theorem State.turnFreed_unit_self :
    (s.turnFreed n).unit n = s.unit n ∨ (s.turnFreed n).unit n = (s.unit n).beginSending := by
  rcases s.turnFreed_cases n with same | sends
  · rw [same]; exact .inl rfl
  · rw [sends]; exact s.enterSending_unit_self n

@[simp] theorem State.turnFreed_unit_lastClose : ((s.turnFreed n).unit n).lastClose = (s.unit n).lastClose := by
  rcases s.turnFreed_unit_self n with same | sends
  · rw [same]
  · rw [sends]; rfl

@[simp] theorem State.turnFreed_unit_counters : ((s.turnFreed n).unit n).counters = (s.unit n).counters := by
  rcases s.turnFreed_unit_self n with same | sends
  · rw [same]
  · rw [sends]; rfl

@[simp] theorem State.turnFreed_unit_nextSeq : ((s.turnFreed n).unit n).nextSeq = (s.unit n).nextSeq := by
  rcases s.turnFreed_unit_self n with same | sends
  · rw [same]
  · rw [sends]; rfl

/-! ### Re-arming (R24) -/

/-- A hunt state entered, with the quiet timer of R9. -/
theorem CaptureUnit.enter_eq (u : CaptureUnit) (p : Plan) (st : CaptureState) :
    u.enter p st = { u with
      phase := st, gap := none, span := none
      quiet := if st = .huntQuiet ∧ u.breakInProgress = false ∧ u.lineSending = false then
        some (tuStarted (p.quiet.getD 0)) else none } := by
  by_cases h : st = .huntQuiet
  · have quietTime : p.quietTimer = tuStarted (p.quiet.getD 0) := rfl
    cases hb : u.breakInProgress <;> cases hl : u.lineSending <;>
      simp [CaptureUnit.enter, CaptureUnit.startQuiet, h, hb, hl, quietTime]
  · simp [CaptureUnit.enter, h]

/-- The hunt state that a CONTINUOUS plan re-arms in: a break that ended the frame is the start condition of the two BREAK
forms (R24). -/
def Plan.rearmState (p : Plan) (byBreak : Bool) : CaptureState :=
  if byBreak = true ∧ p.startForm = .brk then .huntAny
  else if byBreak = true ∧ p.startForm = .brkLead then .huntLead else p.startForm.firstState

theorem State.modUnit_congr {f g : CaptureUnit → CaptureUnit} (h : f (s.unit n) = g (s.unit n)) :
    s.modUnit n f = s.modUnit n g := by
  simp [State.modUnit, h]

/-- What a re-arm does to an armed unit (R24), case by case. -/
theorem State.rearm_cases {p : Plan} (plan : (s.unit n).plan = some p) (byBreak : Bool) :
    (∃ q, (s.unit n).staged = some q
        ∧ s.rearm n byBreak = s.modUnit n (fun u => ({ u with staged := none, plan := some q } : CaptureUnit).enter q
            q.startForm.firstState))
      ∨ ((s.unit n).staged = none ∧ p.again = .continuous
        ∧ s.rearm n byBreak = s.modUnit n (fun u => u.enter p (p.rearmState byBreak)))
      ∨ ((s.unit n).staged = none ∧ p.again = .once
        ∧ s.rearm n byBreak = (s.modUnit n CaptureUnit.disarm).raise (.cu n)
            (.captureDone n ((s.unit n).lastClose.getD .lost))) := by
  unfold State.rearm
  dsimp only
  cases staged : (s.unit n).staged with
  | some q => exact .inl ⟨q, rfl, by simp [CaptureUnit.hunt]⟩
  | none =>
    cases again : p.again with
    | continuous =>
      refine .inr (.inl ⟨rfl, rfl, ?_⟩)
      have hunts : (s.unit n).hunt p = (s.unit n).enter p p.startForm.firstState := by
        rw [CaptureUnit.hunt, ← plan]
      simp only [plan, again]
      refine s.modUnit_congr n ?_
      unfold Plan.rearmState
      split
      · rfl
      · split
        · rfl
        · exact hunts
    | once => exact .inr (.inr ⟨rfl, rfl, by simp [plan, again]⟩)

theorem State.rearm_slot (byBreak : Bool) (j : SlotNo) : (s.rearm n byBreak).slot j = s.slot j := by
  simp [State.slot]

section Armed

variable {s n} {p : Plan} (plan : (s.unit n).plan = some p) (byBreak : Bool)

include plan

theorem State.rearm_unit_ne {m : LineNo} (h : m ≠ n) : (s.rearm n byBreak).unit m = s.unit m := by
  rcases s.rearm_cases n plan byBreak with ⟨q, _, e⟩ | ⟨_, _, e⟩ | ⟨_, _, e⟩ <;>
    simp [e, State.modUnit_unit_ne _ _ _ _ h]

theorem State.rearm_unit_lastClose : ((s.rearm n byBreak).unit n).lastClose = (s.unit n).lastClose := by
  rcases s.rearm_cases n plan byBreak with ⟨q, _, e⟩ | ⟨_, _, e⟩ | ⟨_, _, e⟩ <;>
    simp [e, CaptureUnit.enter_eq, CaptureUnit.disarm]

theorem State.rearm_unit_counters : ((s.rearm n byBreak).unit n).counters = (s.unit n).counters := by
  rcases s.rearm_cases n plan byBreak with ⟨q, _, e⟩ | ⟨_, _, e⟩ | ⟨_, _, e⟩ <;>
    simp [e, CaptureUnit.enter_eq, CaptureUnit.disarm]

theorem State.rearm_unit_nextSeq : ((s.rearm n byBreak).unit n).nextSeq = (s.unit n).nextSeq := by
  rcases s.rearm_cases n plan byBreak with ⟨q, _, e⟩ | ⟨_, _, e⟩ | ⟨_, _, e⟩ <;>
    simp [e, CaptureUnit.enter_eq, CaptureUnit.disarm]

/-- CAPTURE_DONE is raised exactly where `doneReports` says. -/
theorem State.rearm_ru {reason : CloseReason} (closed : (s.unit n).lastClose = some reason) :
    (s.rearm n byBreak).ru = { s.ru with inbox := s.ru.inbox ++ (s.unit n).doneReports p n reason } := by
  rcases s.rearm_cases n plan byBreak with ⟨q, staged, e⟩ | ⟨staged, again, e⟩ | ⟨staged, again, e⟩
  · simp [e, CaptureUnit.doneReports, staged]
  · simp [e, CaptureUnit.doneReports, staged, again]
  · simp [e, CaptureUnit.doneReports, staged, again, closed, State.raise]

theorem State.rearm_rearmed (noFrame : (s.unit n).frame = none) (noSkip : (s.unit n).skip = none) :
    Rearmed (s.unit n) ((s.rearm n byBreak).unit n) p byBreak := by
  rcases s.rearm_cases n plan byBreak with ⟨q, staged, e⟩ | ⟨staged, again, e⟩ | ⟨staged, again, e⟩
  · simp [e, Rearmed, CaptureUnit.enter_eq, staged, noFrame, noSkip]
  · simp [e, Rearmed, CaptureUnit.enter_eq, staged, again, noFrame, noSkip, plan, Plan.rearmState]
  · simp [e, Rearmed, CaptureUnit.disarm, staged, again, noFrame, noSkip]

end Armed

/-- Of the unit before, re-arming reads the staged plan only. -/
theorem Rearmed.of_staged_eq {u w v : CaptureUnit} {p : Plan} {byBreak : Bool} (h : Rearmed u v p byBreak)
    (same : w.staged = u.staged) : Rearmed w v p byBreak := by
  unfold Rearmed at h ⊢
  rwa [same]

/-- SENDING stops the quiet timer, and the line-sending flag it sets holds that timer (R9, R29). -/
theorem Rearmed.beginSending {u v : CaptureUnit} {p : Plan} {byBreak : Bool} (h : Rearmed u v p byBreak) :
    Rearmed u v.beginSending p byBreak := by
  obtain ⟨staged, frame, skip, gap, span, next, again, once, _⟩ := h
  exact ⟨staged, frame, skip, gap, span, next, again, once, by simp [CaptureUnit.beginSending]⟩

theorem Rearmed.turnFreed {u : CaptureUnit} {p : Plan} {byBreak : Bool} (h : Rearmed u (s.unit n) p byBreak) :
    Rearmed u ((s.turnFreed n).unit n) p byBreak := by
  rcases s.turnFreed_unit_self n with same | sends
  · rwa [same]
  · rw [sends]; exact h.beginSending

/-! ### The ERROR close (R22) -/

/-- The unit after an ERROR close, before it re-arms. -/
def CaptureUnit.endError (u : CaptureUnit) : CaptureUnit :=
  { u with
    frame := none, gap := none, span := none, lastClose := some .error
    counters := { u.counters with aborted := satInc u.counters.aborted } }

@[simp] theorem CaptureUnit.endError_plan (u : CaptureUnit) : u.endError.plan = u.plan := rfl
@[simp] theorem CaptureUnit.endError_staged (u : CaptureUnit) : u.endError.staged = u.staged := rfl
@[simp] theorem CaptureUnit.endError_frame (u : CaptureUnit) : u.endError.frame = none := rfl
@[simp] theorem CaptureUnit.endError_skip (u : CaptureUnit) : u.endError.skip = u.skip := rfl
@[simp] theorem CaptureUnit.endError_nextSeq (u : CaptureUnit) : u.endError.nextSeq = u.nextSeq := rfl
@[simp] theorem CaptureUnit.endError_lastClose (u : CaptureUnit) : u.endError.lastClose = some .error := rfl
@[simp] theorem CaptureUnit.endError_counters (u : CaptureUnit) :
    u.endError.counters = { u.counters with aborted := satInc u.counters.aborted } := rfl
@[simp] theorem CaptureUnit.endError_doneReports (u : CaptureUnit) (p : Plan) (r : CloseReason) :
    u.endError.doneReports p n r = u.doneReports p n r := rfl

/-- The part after an ERROR close of a unit's frame, before the unit re-arms. -/
def State.errorClosed (f : FrameInProgress) : State :=
  ((s.freeSlot f.slot).lose (.cu n) .errorAbort n).modUnit n CaptureUnit.endError

theorem State.closeError_eq {f : FrameInProgress} (frame : (s.unit n).frame = some f) :
    s.closeError n = (s.errorClosed n f).rearm n false := by
  unfold State.closeError
  rw [frame]
  rfl

@[simp] theorem State.errorClosed_unit (f : FrameInProgress) : (s.errorClosed n f).unit n = (s.unit n).endError := by
  simp [State.errorClosed]

theorem State.errorClosed_plan (f : FrameInProgress) {p : Plan} (plan : (s.unit n).plan = some p) :
    ((s.errorClosed n f).unit n).plan = some p := by
  simpa using plan

theorem State.errorClosed_ru (f : FrameInProgress) :
    (s.errorClosed n f).ru = { s.ru with inbox := s.ru.inbox ++ [(.cu n, .loss .errorAbort n)] } := rfl

section Closing

variable {s n} {f : FrameInProgress} (frame : (s.unit n).frame = some f)

include frame

theorem State.closeError_slot_self : (s.closeError n).slot f.slot = {} := by
  simp [s.closeError_eq n frame, State.rearm_slot, State.errorClosed]

theorem State.closeError_slot_ne {j : SlotNo} (h : j ≠ f.slot) : (s.closeError n).slot j = s.slot j := by
  simp [s.closeError_eq n frame, State.rearm_slot, State.errorClosed, State.freeSlot_slot_ne _ _ _ h]

variable {p : Plan} (plan : (s.unit n).plan = some p)

include plan

theorem State.closeError_unit_ne {m : LineNo} (h : m ≠ n) : (s.closeError n).unit m = s.unit m := by
  rw [s.closeError_eq n frame, State.rearm_unit_ne (s.errorClosed_plan n f plan) false h]
  exact State.modUnit_unit_ne _ n m _ h

theorem State.closeError_unit_lastClose : ((s.closeError n).unit n).lastClose = some .error := by
  simp [s.closeError_eq n frame, State.rearm_unit_lastClose (s.errorClosed_plan n f plan)]

theorem State.closeError_unit_counters : ((s.closeError n).unit n).counters
    = { (s.unit n).counters with aborted := satInc (s.unit n).counters.aborted } := by
  simp [s.closeError_eq n frame, State.rearm_unit_counters (s.errorClosed_plan n f plan)]

theorem State.closeError_unit_nextSeq : ((s.closeError n).unit n).nextSeq = (s.unit n).nextSeq := by
  simp [s.closeError_eq n frame, State.rearm_unit_nextSeq (s.errorClosed_plan n f plan)]

theorem State.closeError_ru : (s.closeError n).ru = { s.ru with inbox :=
    s.ru.inbox ++ (.cu n, .loss .errorAbort n) :: (s.unit n).doneReports p n .error } := by
  have closed : ((s.errorClosed n f).unit n).lastClose = some .error := by simp
  rw [s.closeError_eq n frame, State.rearm_ru (s.errorClosed_plan n f plan) false closed, State.errorClosed_ru]
  simp

theorem State.closeError_rearmed (noSkip : (s.unit n).skip = none) :
    Rearmed (s.unit n) ((s.closeError n).unit n) p false := by
  rw [s.closeError_eq n frame]
  refine (State.rearm_rearmed (s.errorClosed_plan n f plan) false ?_ ?_).of_staged_eq ?_
  · simp
  · simpa using noSkip
  · simp

end Closing

/-! ### The end of a character (R130, R131) -/

/-- A Line Port at which a character has ended (R130). -/
def LinePort.afterChar (p : LinePort) (status : CharStatus) (level : Level) : LinePort :=
  ({ p with
    receiver := .idle, breakWatch := level != .mark, level := level
    rxCounters := p.rxCounters.count status } : LinePort).restartPreQuiet

@[simp] theorem LinePort.afterChar_txState (p : LinePort) (status : CharStatus) (level : Level) :
    (p.afterChar status level).txState = p.txState := by
  unfold LinePort.afterChar LinePort.restartPreQuiet
  split <;> rfl

@[simp] theorem LinePort.afterChar_txQueue (p : LinePort) (status : CharStatus) (level : Level) :
    (p.afterChar status level).txQueue = p.txQueue := by
  unfold LinePort.afterChar LinePort.restartPreQuiet
  split <;> rfl

/-- Both commands that end a character hand the same character to the rest of the part. -/
theorem exec_of_hears {c : Instr} {value : Byte} {status : CharStatus} (h : Hears s n c value status) :
    ∃ level, exec c s = .next (s.charEnded n value status level) := by
  rcases h with ⟨rfl, candidate, rfl, rfl⟩ | ⟨data, parityBit, stopBit, rfl, receiving, judged⟩
  · exact ⟨.mark, by simp [exec, execCandidateFraming, candidate]⟩
  · simp only [exec, execCharacterReceived, State.stopSample, receiving, judged]
    exact ⟨_, rfl⟩

theorem State.charEnded_of_handsOn {value : Byte} {status : CharStatus} {level : Level}
    (handsOn : (s.port n).handsOn = true) :
    s.charEnded n value status level = (s.modPort n (fun p => p.afterChar status level)).unitChar n value status := by
  unfold State.charEnded
  exact if_pos handsOn

/-- An error character under ABORT in COLLECTING is an ERROR close, and what it frees of the turn is taken (R22, R116). -/
theorem State.unitChar_error_abort {value : Byte} {status : CharStatus} {p : Plan} {f : FrameInProgress}
    (bad : status ≠ .good) (phase : (s.unit n).phase = .collecting) (plan : (s.unit n).plan = some p)
    (frame : (s.unit n).frame = some f) (abort : p.errorPolicy = .abort) :
    s.unitChar n value status = (s.closeError n).turnFreed n := by
  simp [State.unitChar, State.collect, bad, phase, plan, frame, abort]

/-- What either command does with an error character under ABORT in COLLECTING. -/
theorem exec_error_abort {p : Plan} {f : FrameInProgress} {c : Instr} {value : Byte} {status : CharStatus}
    (bad : status ≠ .good) (hears : Hears s n c value status) (handsOn : (s.port n).handsOn = true)
    (phase : (s.unit n).phase = .collecting) (plan : (s.unit n).plan = some p)
    (frame : (s.unit n).frame = some f) (abort : p.errorPolicy = .abort) :
    ∃ level, exec c s = .next (((s.modPort n (fun p => p.afterChar status level)).closeError n).turnFreed n) := by
  obtain ⟨level, runs⟩ := exec_of_hears s n hears
  refine ⟨level, ?_⟩
  rw [runs, s.charEnded_of_handsOn n handsOn]
  exact congrArg _ (State.unitChar_error_abort _ n bad phase plan frame abort)

end Rules

/-- Settles O21: the character ends in an ERROR close (R22), a re-arm (R24) and a turn taken (R116), each by its own rules. -/
theorem errorCharacterAbortsTheFrame : Obligations.ErrorCharacterAbortsTheFrame := by
  unfold Obligations.ErrorCharacterAbortsTheFrame
  intro s n p f c value status bad hears handsOn phase plan frame noSkip abort notQueued
  obtain ⟨level, runs⟩ := exec_error_abort s n bad hears handsOn phase plan frame abort
  set heard := s.modPort n (fun p => p.afterChar status level) with heard_def
  set closed := heard.closeError n with closed_def
  have ports : ∀ m, closed.port m = heard.port m := fun m => by simp [State.port, closed_def]
  have port : closed.port n = (s.port n).afterChar status level := by simp [ports, heard_def]
  have freed : (closed.turnFreed n).slot f.slot = {} := by
    rw [closed.turnFreed_slot_of_not_queued n (by simpa [port] using notQueued)]
    exact State.closeError_slot_self (s := heard) frame
  have others : ∀ j, j ≠ f.slot → closed.slot j = s.slot j := fun j hj =>
    State.closeError_slot_ne (s := heard) frame hj
  have rearmed : Rearmed (s.unit n) ((closed.turnFreed n).unit n) p false :=
    (State.closeError_rearmed (s := heard) frame plan noSkip).turnFreed
  have ⟨_, noFrame, _, noGap, noSpan, _⟩ := rearmed
  refine ⟨closed.turnFreed n, runs, by rw [freed], ?_, ?_, noFrame, ?_, ?_, noGap, noSpan, ?_, rearmed, ?_,
    by simp [closed, heard], by simp [closed, heard], by simp [closed, heard], ?_⟩
  · intro j hj
    rw [← others j hj]
    exact closed.turnFreed_slot_data_owner n j
  · intro idle j hj
    rw [closed.turnFreed_of_not_waiting n (by simpa [port] using idle), others j hj]
  · rw [State.turnFreed_unit_lastClose]
    exact State.closeError_unit_lastClose (s := heard) frame plan
  · rw [State.turnFreed_unit_counters]
    exact State.closeError_unit_counters (s := heard) frame plan
  · rw [State.turnFreed_unit_nextSeq]
    exact State.closeError_unit_nextSeq (s := heard) frame plan
  · rw [State.turnFreed_ru]
    exact State.closeError_ru (s := heard) frame plan
  · intro m hm
    constructor
    · rw [closed.turnFreed_unit_ne n hm]
      exact State.closeError_unit_ne (s := heard) frame plan hm
    · rw [closed.turnFreed_port_ne n hm, ports m]
      exact s.modPort_port_ne n m _ hm

end Sys2Proof.Machine
end

section
/-! PROOFS. The Route Table and what no two of its entries match (03_the_route_table.md, R49): the shared operations, and the
operations of every block but RE, that leave the table as it is. -/

namespace Sys2Proof.Machine

variable (s : State)

/-! ### RE's own state beside the table -/

@[simp] theorem State.modResolution_routes (f : ResolutionCounters → ResolutionCounters) :
    (s.modResolution f).re.routes = s.re.routes := rfl
@[simp] theorem State.modTable_routes (f : TableCounters → TableCounters) : (s.modTable f).re.routes = s.re.routes := rfl
@[simp] theorem State.unpark_routes (k : Half) : (s.unpark k).re.routes = s.re.routes := rfl
@[simp] theorem State.setReason_routes (k : Half) (r : ParkReason) : (s.setReason k r).re.routes = s.re.routes := rfl
@[simp] theorem State.remark_routes (f : ParkRecord → Bool) (r : ParkReason) : (s.remark f r).re.routes = s.re.routes := rfl

/-- Whatever a claim answers, it leaves RE as it is. -/
theorem State.claim_answer_re {s t : State} {who : Claimant} {owner : Owner} {fill : Slot} {answer : Claim}
    (h : s.claim who owner fill = (answer, t)) : t.re = s.re := by
  simpa [h] using s.claim_re who owner fill

theorem State.route_congr {s t : State} (same : t.re.routes = s.re.routes) (i : RouteNo) : t.route i = s.route i := by
  simp [State.route, same]

/-! ### Capture Units -/

@[simp] theorem State.closeKept_routes (n : LineNo) (p : Plan) (f : FrameInProgress) (r : CloseReason) :
    (s.closeKept n p f r).re.routes = s.re.routes := rfl

@[simp] theorem State.closeFrame_routes (n : LineNo) (r : CloseReason) : (s.closeFrame n r).re.routes = s.re.routes := by
  unfold State.closeFrame
  split <;> simp

@[simp] theorem State.openFrame_routes (n : LineNo) (p : Plan) (v : Byte) :
    (s.openFrame n p v).re.routes = s.re.routes := by
  unfold State.openFrame
  dsimp only
  split
  · next granted => split <;> simp [State.claim_answer_re granted]
  · next refused => split <;> simp [State.claim_answer_re refused]

@[simp] theorem State.collect_routes (n : LineNo) (p : Plan) (f : FrameInProgress) (v : Byte) (c : CharStatus) :
    (s.collect n p f v c).re.routes = s.re.routes := by
  unfold State.collect
  dsimp only
  split_ifs <;> simp

@[simp] theorem State.skipChar_re (n : LineNo) (p : Plan) (k : SkipInProgress) (v : Byte) (c : CharStatus) :
    (s.skipChar n p k v c).re = s.re := by
  unfold State.skipChar
  repeat' split
  all_goals simp

@[simp] theorem State.huntAnyChar_routes (n : LineNo) (p : Plan) (v : Byte) (c : CharStatus) :
    (s.huntAnyChar n p v c).re.routes = s.re.routes := by
  unfold State.huntAnyChar
  repeat' split
  all_goals simp

@[simp] theorem State.huntLeadChar_routes (n : LineNo) (p : Plan) (v : Byte) (c : CharStatus) :
    (s.huntLeadChar n p v c).re.routes = s.re.routes := by
  unfold State.huntLeadChar
  repeat' split
  all_goals simp

@[simp] theorem State.unitChar_routes (n : LineNo) (v : Byte) (c : CharStatus) :
    (s.unitChar n v c).re.routes = s.re.routes := by
  unfold State.unitChar
  split
  · rfl
  · rw [State.turnFreed_re]
    repeat' split
    all_goals simp

@[simp] theorem State.huntBreakDetected_re (n : LineNo) (p : Plan) : (s.huntBreakDetected n p).re = s.re := by
  unfold State.huntBreakDetected
  split <;> simp

@[simp] theorem State.unitBreak_routes (n : LineNo) : (s.unitBreak n).re.routes = s.re.routes := by
  unfold State.unitBreak
  dsimp only
  split
  · rfl
  · rw [State.turnFreed_re]
    split <;> simp

@[simp] theorem State.unitTimeout_routes (n : LineNo) (r : CloseReason) (turnWaits : Bool) :
    (s.unitTimeout n r turnWaits).re.routes = s.re.routes := by
  unfold State.unitTimeout
  cases turnWaits with
  | true => rw [if_pos rfl]; split <;> simp
  | false => rw [if_neg nofun, State.turnFreed_re]; split <;> simp

@[simp] theorem State.arm_re (tag : Byte) (n : LineNo) (p : Plan) : (s.arm tag n p).re = s.re := by
  unfold State.arm
  repeat' split
  all_goals simp

@[simp] theorem State.disarmFrame_routes (n : LineNo) (how : Partial) :
    (s.disarmFrame n how).1.re.routes = s.re.routes := by
  unfold State.disarmFrame
  repeat' split
  all_goals simp

@[simp] theorem State.disarm_routes (tag : Byte) (n : LineNo) (how : Partial) :
    (s.disarm tag n how).re.routes = s.re.routes := by
  simp [State.disarm]

@[simp] theorem State.unitReconfigured_routes (n : LineNo) : (s.unitReconfigured n).re.routes = s.re.routes := by
  unfold State.unitReconfigured
  split <;> simp

/-! ### Line Ports -/

@[simp] theorem State.charEnded_routes (n : LineNo) (v : Byte) (c : CharStatus) (l : Level) :
    (s.charEnded n v c l).re.routes = s.re.routes := by
  unfold State.charEnded
  dsimp only
  split <;> simp

@[simp] theorem State.stopSample_routes (n : LineNo) (data : Byte) (parityBit stopBit : Bool) :
    (s.stopSample n data parityBit stopBit).re.routes = s.re.routes := by
  unfold State.stopSample
  repeat' split
  all_goals simp

@[simp] theorem State.detectBreak_routes (n : LineNo) : (s.detectBreak n).re.routes = s.re.routes := by
  unfold State.detectBreak
  dsimp only
  split <;> simp

@[simp] theorem State.endBreak_re (n : LineNo) : (s.endBreak n).re = s.re := rfl

@[simp] theorem State.lineOff_re (tag : Byte) (n : LineNo) (c : LineConfig) : (s.lineOff tag n c).re = s.re := by
  simp [State.lineOff]

@[simp] theorem State.lineApply_routes (tag : Byte) (n : LineNo) (c : LineConfig) :
    (s.lineApply tag n c).re.routes = s.re.routes := by
  simp [State.lineApply]

@[simp] theorem State.lineDrain_routes (tag : Byte) (n : LineNo) (c : LineConfig) (limit : Half) :
    (s.lineDrain tag n c limit).re.routes = s.re.routes := by
  unfold State.lineDrain
  dsimp only
  split <;> simp

@[simp] theorem State.lineOn_re (n : LineNo) (c : LineConfig) : (s.lineOn n c).re = s.re := by
  unfold State.lineOn
  dsimp only
  split <;> simp

@[simp] theorem State.lineSet_routes (tag : Byte) (n : LineNo) (c : LineConfig) (limit : Half) :
    (s.lineSet tag n c limit).re.routes = s.re.routes := by
  unfold State.lineSet
  repeat' split
  all_goals simp

@[simp] theorem State.transmit_re (tag : Byte) (n : LineNo) (data : List Byte) (preQuiet : Half) (notify : Bool) :
    (s.transmit tag n data preQuiet notify).re = s.re := by
  unfold State.transmit
  split
  · simp
  · simp
  · split
    · simp
    · split <;> next answer => simp [State.claim_answer_re answer]

@[simp] theorem State.flushTx_re (tag : Byte) (n : LineNo) : (s.flushTx tag n).re = s.re := by
  unfold State.flushTx
  dsimp only
  split <;> simp

@[simp] theorem State.cancelDrain_re (n : LineNo) (d : Drain) (target : Byte) : (s.cancelDrain n d target).re = s.re := by
  simp [State.cancelDrain]

@[simp] theorem State.cancelLineSet_re (tag target : Byte) (n : LineNo) : (s.cancelLineSet tag target n).re = s.re := by
  unfold State.cancelLineSet
  repeat' split
  all_goals simp

@[simp] theorem State.portSessionEnd_re (n : LineNo) : (s.portSessionEnd n).1.re = s.re := by
  unfold State.portSessionEnd
  repeat' split
  all_goals simp

/-! ### The Queue Manager -/

@[simp] theorem State.fetch_re (tag : Byte) (q : QueueNo) (max wait : Nat) : (s.fetch tag q max wait).re = s.re := by
  unfold State.fetch
  dsimp only
  repeat' split
  all_goals simp

/-- What folding an operation over a list keeps, when each of its steps keeps it. -/
theorem foldl_keeps {α β γ : Type} (g : β → γ) (f : β → α → β) (keeps : ∀ b a, g (f b a) = g b) (l : List α) (b : β) :
    g (l.foldl f b) = g b :=
  List.foldlRecOn (motive := fun c => g c = g b) l f rfl fun c same a _ => (keeps c a).trans same

@[simp] theorem State.releaseLent_re (q : QueueNo) (named : List SlotNo) : (s.releaseLent q named).re = s.re :=
  foldl_keeps State.re State.freeSlot State.freeSlot_re named _

@[simp] theorem State.returnLent_re (q : QueueNo) (named : List SlotNo) : (s.returnLent q named).re = s.re :=
  foldl_keeps State.re State.unlend (fun _ _ => rfl) named _

@[simp] theorem State.queueSet_re (tag : Byte) (q : QueueNo) (capacity : Nat) (notify : Bool) :
    (s.queueSet tag q capacity notify).re = s.re := rfl

@[simp] theorem State.cancelFetch_re (tag target : Byte) : (s.cancelFetch tag target).re = s.re := by
  unfold State.cancelFetch
  repeat' split
  all_goals simp

@[simp] theorem State.queueSessionEnd_re (q : QueueNo) : (s.queueSessionEnd q).1.re = s.re := by
  unfold State.queueSessionEnd
  dsimp only
  split <;> simp

@[simp] theorem State.queuesSessionEnd_re : s.queuesSessionEnd.1.re = s.re := by
  unfold State.queuesSessionEnd
  generalize List.finRange 8 = queues
  refine foldl_keeps (fun acc : State × Nat × Nat => acc.1.re) _ (fun (t, cancelled, returned) q => ?_) queues (s, 0, 0)
  have kept := t.queueSessionEnd_re q
  rcases h : t.queueSessionEnd q with ⟨u, c, r⟩
  simpa [h] using kept

/-! ### The Report Unit -/

@[simp] theorem State.lossAtRU_re (src : Source) : (s.lossAtRU src).re = s.re := by
  unfold State.lossAtRU
  split <;> simp

@[simp] theorem State.lossAtLP_re (src : Source) (line : LineNo) : (s.lossAtLP src line).re = s.re := by
  unfold State.lossAtLP
  split <;> simp

@[simp] theorem State.reportLost_re : s.reportLost.re = s.re := by
  unfold State.reportLost
  split <;> simp

@[simp] theorem State.ack_re (tag : Byte) (sequence : Half) : (s.ack tag sequence).re = s.re := by
  unfold State.ack
  split <;> simp

@[simp] theorem State.resend_re (tag : Byte) : (s.resend tag).re = s.re := by
  rw [State.resend, State.answer_re]
  exact foldl_keeps State.re State.handReport State.handReport_re s.ru.queue s

@[simp] theorem State.stats_re (tag : Byte) (x : Selector) (clear : Bool) : (s.stats tag x clear).re = s.re := by
  unfold State.stats
  repeat' split
  all_goals simp

@[simp] theorem State.reportsSessionEnd_re : s.reportsSessionEnd.1.re = s.re := rfl

/-! ### The Host Link -/

@[simp] theorem State.discardPacket_re (cause : DiscardCause) : (s.discardPacket cause).re = s.re := by
  simp [State.discardPacket]

@[simp] theorem State.joinPacket_re (p : OutPacket) : (s.joinPacket p).re = s.re := by
  rcases s.joinPacket_cases p with ⟨_, e⟩ | ⟨_, _, e⟩ | ⟨_, _, e⟩ <;> simp [e]

@[simp] theorem State.takeIncoming_re : s.takeIncoming.re = s.re := by
  unfold State.takeIncoming
  split <;> simp

@[simp] theorem State.sendNext_re : s.sendNext.re = s.re := by
  unfold State.sendNext
  split <;> rfl

@[simp] theorem State.beginSending_re : s.beginSending.re = s.re := by
  unfold State.beginSending
  split <;> simp

@[simp] theorem State.openTaken_re (tag : Byte) : (s.openTaken tag).re = s.re := by
  unfold State.openTaken
  repeat' split
  all_goals rfl

@[simp] theorem State.nextOpen_re : s.nextOpen.re = s.re := by
  unfold State.nextOpen
  repeat' split
  all_goals simp

@[simp] theorem State.afterEnd_re (e : SessionEnding) : (s.afterEnd e).re = s.re := by
  unfold State.afterEnd
  split <;> rfl

@[simp] theorem State.takeEnd_re (e : SessionEnding) (taker : EndTaker) : (s.takeEnd e taker).re = s.re := by
  cases taker with
  | qm => dsimp only [State.takeEnd]; split <;> simp [State.queuesTakeEnd]
  | lp n => dsimp only [State.takeEnd]; split <;> simp [State.portTakesEnd]
  | ru => dsimp only [State.takeEnd]; split <;> simp [State.reportsTakeEnd]
  | hl => dsimp only [State.takeEnd]; split <;> simp [State.finishEnd]

@[simp] theorem State.cancelAt_re (tag target : Byte) (b : Block) : (s.cancelAt tag target b).re = s.re := by
  unfold State.cancelAt
  split <;> simp

@[simp] theorem State.keepByte_re (b : Byte) (rx : LinkRxState) : (s.keepByte b rx).re = s.re := rfl

@[simp] theorem State.lengthByte_re (b : Byte) : (s.lengthByte b).re = s.re := by
  unfold State.lengthByte
  dsimp only
  split_ifs <;> simp

@[simp] theorem State.huntByte_re (b : Byte) : (s.huntByte b).re = s.re := by
  unfold State.huntByte
  split <;> rfl

end Sys2Proof.Machine
end

section
/-! PROOFS. No two in-use entries match one key (03_the_route_table.md, R49): what keeps it in the operations of RE, in the
acceptance of a request and in the expiry of a timer. -/

namespace Sys2Proof.Machine

variable {s t : State}

/-! ### Entries that match the same keys (R48) -/

/-- The entries match the same keys in the same domains; action, state, hits and stamp may differ (R48). -/
def RouteEntry.SameMatch (a b : RouteEntry) : Prop := a.width = b.width ∧ a.key = b.key ∧ a.scope = b.scope

/-- The entries conflict (R49). -/
def RouteEntry.Conflicts (a b : RouteEntry) : Prop := a.width = b.width ∧ a.key = b.key ∧ a.scope.clashes b.scope = true

theorem Scope.clashes_comm (a b : Scope) : a.clashes b = b.clashes a := by
  unfold Scope.clashes
  rw [Bool.or_right_comm, Bool.beq_comm]

theorem RouteEntry.Conflicts.symm {a b : RouteEntry} (h : a.Conflicts b) : b.Conflicts a := by
  obtain ⟨width, key, clash⟩ := h
  exact ⟨width.symm, key.symm, Scope.clashes_comm a.scope b.scope ▸ clash⟩

theorem RouteEntry.SameMatch.conflicts {a b c d : RouteEntry} (hac : a.SameMatch c) (hbd : b.SameMatch d)
    (h : a.Conflicts b) : c.Conflicts d := by
  obtain ⟨aw, ak, as⟩ := hac
  obtain ⟨bw, bk, bs⟩ := hbd
  unfold RouteEntry.Conflicts at h ⊢
  rwa [← aw, ← ak, ← as, ← bw, ← bk, ← bs]

/-- Scopes that serve one domain clash (R48, R49). -/
theorem Scope.clashes_of_serves {a b : Scope} {d : Domain} (ha : a.serves d = true) (hb : b.serves d = true) :
    a.clashes b = true := by
  cases a with
  | shared => simp [Scope.clashes]
  | domain x =>
    cases b with
    | shared => simp [Scope.clashes]
    | domain y =>
      have hx : x = d := by simpa [Scope.serves] using ha
      have hy : y = d := by simpa [Scope.serves] using hb
      simp [Scope.clashes, hx, hy]

/-- Entries that match one key of a width in one domain conflict. -/
theorem RouteEntry.conflicts_of_serves {a b : RouteEntry} {key : Half} {w : KeyWidth} {d : Domain}
    (ha : a.serves key w d = true) (hb : b.serves key w d = true) : a.Conflicts b := by
  simp only [RouteEntry.serves, Bool.and_eq_true, beq_iff_eq] at ha hb
  obtain ⟨⟨aw, ak⟩, as⟩ := ha
  obtain ⟨⟨bw, bk⟩, bs⟩ := hb
  exact ⟨aw.trans bw.symm, ak.trans bk.symm, Scope.clashes_of_serves as bs⟩

theorem State.servesAt_iff {i : RouteNo} {key : Half} {w : KeyWidth} {d : Domain} :
    s.servesAt i key w d = true ↔ ∃ e, s.route i = some e ∧ e.serves key w d = true := by
  unfold State.servesAt
  cases s.route i <;> simp

/-! ### The table (R49) -/

theorem State.routesSound_iff :
    s.RoutesSound ↔ ∀ i j, i ≠ j → ∀ a b, s.route i = some a → s.route j = some b → ¬a.Conflicts b :=
  ⟨fun h i j ne a b ha hb => h i j ne a ha b hb, fun h i j ne a ha b hb => h i j ne a b ha hb⟩

/-- A table whose entries match what the entries at their places matched before has no new conflict. -/
theorem State.RoutesSound.of_within (h : s.RoutesSound)
    (within : ∀ i b, t.route i = some b → ∃ a, s.route i = some a ∧ b.SameMatch a) : t.RoutesSound := by
  rw [State.routesSound_iff] at h ⊢
  intro i j ne a b ha hb conflict
  obtain ⟨a', ha', sameA⟩ := within i a ha
  obtain ⟨b', hb', sameB⟩ := within j b hb
  exact h i j ne a' b' ha' hb' (sameA.conflicts sameB conflict)

theorem State.RoutesSound.of_routes (h : s.RoutesSound) (same : t.re.routes = s.re.routes) : t.RoutesSound :=
  h.of_within fun i b hb => ⟨b, State.route_congr same i ▸ hb, rfl, rfl, rfl⟩

theorem State.RoutesSound.of_re (h : s.RoutesSound) (same : t.re = s.re) : t.RoutesSound :=
  h.of_routes (congrArg RouteEngine.routes same)

/-- An empty table has no conflict. -/
theorem State.routesSound_of_empty (empty : ∀ i, s.route i = none) : s.RoutesSound := by
  intro i _ _ a ha
  simp [empty i] at ha

theorem State.reset_route (i : RouteNo) : State.reset.route i = none := by
  simp [State.route, State.reset]

/-- A place that is set to no entry, or to one that matches what its own entry matched, brings no conflict. -/
theorem State.RoutesSound.setRoute (h : s.RoutesSound) (i : RouteNo) (e : Option RouteEntry)
    (same : ∀ b, e = some b → ∃ a, s.route i = some a ∧ b.SameMatch a) : (s.setRoute i e).RoutesSound := by
  refine h.of_within fun j b hb => ?_
  by_cases hj : j = i
  · subst hj
    exact same b (by simpa using hb)
  · rw [s.setRoute_route_ne i j e hj] at hb
    exact ⟨b, hb, rfl, rfl, rfl⟩

/-- A place that is set to an entry which conflicts with no entry at another place brings no conflict (R53). -/
theorem State.RoutesSound.setRoute_fresh (h : s.RoutesSound) (i : RouteNo) (e : RouteEntry)
    (free : ∀ j, j ≠ i → ∀ b, s.route j = some b → ¬b.Conflicts e) : (s.setRoute i (some e)).RoutesSound := by
  rw [State.routesSound_iff] at h ⊢
  intro j k ne a b ha hb
  by_cases hj : j = i
  · subst hj
    have new : a = e := by simpa using ha.symm
    rw [s.setRoute_route_ne j k _ ne.symm] at hb
    exact fun conflict => free k ne.symm b hb (new ▸ conflict.symm)
  · rw [s.setRoute_route_ne i j _ hj] at ha
    by_cases hk : k = i
    · subst hk
      have new : b = e := by simpa using hb.symm
      exact new ▸ free j hj a ha
    · rw [s.setRoute_route_ne i k _ hk] at hb
      exact h j k ne a b ha hb

/-- R49: a key of a width is matched by at most one entry in a domain. -/
theorem State.RoutesSound.servesAt_unique (h : s.RoutesSound) {key : Half} {w : KeyWidth} {d : Domain} {i j : RouteNo}
    (hi : s.servesAt i key w d = true) (hj : s.servesAt j key w d = true) : i = j := by
  obtain ⟨a, ha, servesA⟩ := State.servesAt_iff.1 hi
  obtain ⟨b, hb, servesB⟩ := State.servesAt_iff.1 hj
  by_contra ne
  exact State.routesSound_iff.1 h i j ne a b ha hb (RouteEntry.conflicts_of_serves servesA servesB)

/-! ### Dispatch and parking leave the table (R71 to R80) -/

section Table

variable (s)

@[simp] theorem State.deliver_routes (i : SlotNo) (q : QueueNo) : (s.deliver i q).1.re.routes = s.re.routes := by
  simp [State.deliver]

@[simp] theorem State.forward_routes (i : SlotNo) (n : LineNo) (source : RouteSource) :
    (s.forward i n source).1.re.routes = s.re.routes := by
  simp [State.forward]

@[simp] theorem State.discard_routes (i : SlotNo) : (s.discard i).re.routes = s.re.routes := by
  simp [State.discard]

@[simp] theorem State.toDefault_routes (i : SlotNo) (q : QueueNo) : (s.toDefault i q).re.routes = s.re.routes := by
  simp [State.toDefault]

@[simp] theorem State.mirror_routes (x : Resolved) (n : LineNo) (q : QueueNo) (rewrite : Option Half)
    (source : RouteSource) : (s.mirror x n q rewrite source).re.routes = s.re.routes := by
  unfold State.mirror
  dsimp only
  split <;> next answer => simp [State.claim_answer_re answer]

@[simp] theorem State.dispatch_routes (x : Resolved) (i : RouteNo) (e : RouteEntry) :
    (s.dispatch x i e).re.routes = s.re.routes := by
  unfold State.dispatch
  dsimp only
  split <;> simp

@[simp] theorem State.parkFrame_routes (h : HandedFrame) (key : Half) (reason : ParkReason) :
    (s.parkFrame h key reason).re.routes = s.re.routes := by
  simp [State.parkFrame]

@[simp] theorem State.park_routes (h : HandedFrame) (key : Half) (reason : ParkReason) :
    (s.park h key reason).re.routes = s.re.routes := by
  unfold State.park
  split_ifs <;> simp

@[simp] theorem State.newHead_routes (r : ParkRecord) (reason : ParkReason) :
    (s.newHead r reason).re.routes = s.re.routes := by
  simp [State.newHead]

@[simp] theorem State.takeShort_routes (h : HandedFrame) : (s.takeShort h).re.routes = s.re.routes := by
  unfold State.takeShort
  split <;> simp

@[simp] theorem State.dispatchDecision_routes (i : SlotNo) (d : Decision) :
    (s.dispatchDecision i d).1.re.routes = s.re.routes := by
  unfold State.dispatchDecision
  split <;> simp

end Table

/-! ### Matches, cascades and releases (R50, R55, R86) -/

/-- A match counts and stamps its entry, which matches the same keys as before (R50). -/
theorem State.RoutesSound.countMatch (h : s.RoutesSound) (i : RouteNo) : (s.countMatch i).RoutesSound := by
  unfold State.countMatch
  split
  · exact h
  · next e he =>
    have counted : (s.setRoute i (some { e with hits := satInc e.hits, stamp := satInc s.re.useCounter })).RoutesSound :=
      h.setRoute i _ fun b hb => ⟨e, he, by cases hb; exact ⟨rfl, rfl, rfl⟩⟩
    exact counted.of_routes rfl

theorem State.RoutesSound.cascadeLoop (line : LineNo) (width : KeyWidth) (key : Half) (fuel : Nat) (h : s.RoutesSound) :
    (State.cascadeLoop line width key fuel s).1.RoutesSound := by
  induction fuel generalizing s with
  | zero => exact h
  | succ fuel ih =>
    unfold State.cascadeLoop
    dsimp only
    split
    · exact h
    · next r _ =>
      have resolving : (s.modResolution fun c => { c with cascaded := satInc c.cascaded }).RoutesSound := h.of_routes rfl
      split
      · exact resolving.of_routes (by simp)
      · next i _ =>
        split
        · exact resolving
        · split
          · exact (resolving.countMatch i).of_routes (by simp)
          · exact ih ((resolving.countMatch i).of_routes (by simp))

theorem State.RoutesSound.cascade (h : s.RoutesSound) (r : ParkRecord) : (s.cascade r).1.RoutesSound :=
  State.RoutesSound.cascadeLoop r.line r.width r.key _ h

theorem State.RoutesSound.releaseLoop (i : RouteNo) (eligible : ParkRecord → Bool) (fuel : Nat) (h : s.RoutesSound) :
    (State.releaseLoop i eligible fuel s).1.RoutesSound := by
  induction fuel generalizing s with
  | zero => exact h
  | succ fuel ih =>
    unfold State.releaseLoop
    dsimp only
    split
    · next r e _ _ =>
      have released : ((s.unpark r.number).slotTo r.slot .withRE).RoutesSound := h.of_routes rfl
      have dispatched : ((((s.unpark r.number).slotTo r.slot .withRE).countMatch i).dispatch r.resolved i e).RoutesSound :=
        (released.countMatch i).of_routes (by simp)
      exact ih (dispatched.cascade r)
    · exact h

theorem State.RoutesSound.releaseThrough (h : s.RoutesSound) (i : RouteNo) (eligible : ParkRecord → Bool) :
    (s.releaseThrough i eligible).1.RoutesSound := by
  have released := State.RoutesSound.releaseLoop i eligible (s.re.parks.length + 1) h
  exact released.of_routes rfl

theorem State.RoutesSound.takeKeyed (h : s.RoutesSound) (f : HandedFrame) (key : Half) :
    (s.takeKeyed f key).RoutesSound := by
  have keyed : (s.modRecord f.slot (fun r => { r with key := key, keyPresent := true })).RoutesSound := h.of_re rfl
  unfold State.takeKeyed
  dsimp only
  split
  · exact keyed.of_routes (by simp)
  · split
    · exact keyed.of_routes (by simp)
    · next i _ =>
      split
      · exact keyed
      · split <;> exact (keyed.countMatch i).of_routes (by simp)

theorem State.RoutesSound.takeFrame (h : s.RoutesSound) (n : LineNo) : (s.takeFrame n).RoutesSound := by
  unfold State.takeFrame
  split
  · exact h
  · dsimp only
    split
    · exact h.of_routes (by simp)
    · refine State.RoutesSound.takeKeyed ?_ _ _
      exact h.of_routes rfl

theorem State.RoutesSound.expireParked (h : s.RoutesSound) (r : ParkRecord) : (s.expireParked r).RoutesSound := by
  unfold State.expireParked
  dsimp only
  split
  · exact h.of_routes rfl
  · refine State.RoutesSound.cascade ?_ r
    exact h.of_routes rfl

theorem State.RoutesSound.resolveHead (h : s.RoutesSound) (tag : Byte) (r : ParkRecord) (d : Decision) :
    (s.resolveHead tag r d).RoutesSound := by
  have dispatched : ((((s.unpark r.number).slotTo r.slot .withRE).modResolution
      fun c => { c with hostResolved := satInc c.hostResolved }).dispatchDecision r.slot d).1.RoutesSound :=
    h.of_routes (by simp)
  exact (dispatched.cascade r).of_re rfl

theorem State.RoutesSound.resolvePark (h : s.RoutesSound) (tag : Byte) (number : Half) (d : Decision) :
    (s.resolvePark tag number d).RoutesSound := by
  unfold State.resolvePark
  split
  · exact h.of_re rfl
  · split
    · exact h.of_re rfl
    · exact h.resolveHead tag _ d

/-! ### The requests that change the table (R51 to R61) -/

/-- An install is checked against every other in-use entry (R53). -/
theorem State.conflictWith_none {i : RouteNo} {p : InstallParams} (tested : s.conflictWith i p = none) (stamp : Stamp)
    {j : RouteNo} (ne : j ≠ i) {b : RouteEntry} (hb : s.route j = some b) : ¬b.Conflicts (p.entry stamp) := by
  rintro ⟨width, key, clash⟩
  have passed := List.find?_eq_none.1 tested j (List.mem_finRange j)
  simp only [InstallParams.entry] at width key clash
  simp [hb, ne, width, key, clash] at passed

/-- The new entry conflicts with no other, which R53 has tested (R54). -/
theorem State.RoutesSound.writeEntry (h : s.RoutesSound) {i : RouteNo} {p : InstallParams}
    (tested : s.conflictWith i p = none) : (s.writeEntry i p).RoutesSound :=
  (h.setRoute_fresh i (p.entry (satInc s.re.useCounter)) fun _ ne _ hb => State.conflictWith_none tested _ ne hb).of_routes
    rfl

theorem State.RoutesSound.settleParked (h : s.RoutesSound) (i : RouteNo) (p : InstallParams) :
    (s.settleParked i p).1.RoutesSound := by
  have remarked : (s.remark (fun r => r.heldOn i) .miss).RoutesSound := h.of_routes rfl
  unfold State.settleParked
  cases p.state with
  | active => exact (remarked.releaseThrough i _).of_routes rfl
  | suspended => exact remarked.of_routes rfl

theorem State.RoutesSound.install (h : s.RoutesSound) (tag : Byte) (p : InstallParams) :
    (s.install tag p).RoutesSound := by
  unfold State.install
  split
  · exact h.of_re rfl
  · split
    · exact h.of_routes rfl
    · next i _ =>
      split
      · exact h.of_routes rfl
      · next tested => exact ((h.writeEntry tested).settleParked i p).of_re rfl

theorem State.RoutesSound.removeEntry (h : s.RoutesSound) (i : RouteNo) : (s.removeEntry i).1.RoutesSound :=
  (h.setRoute i none nofun).of_routes rfl

theorem State.RoutesSound.removeFound (h : s.RoutesSound) (tag : Byte) (found : Option RouteNo) :
    (s.removeFound tag found).RoutesSound := by
  cases found with
  | none => exact h.of_re rfl
  | some i => exact (h.removeEntry i).of_re rfl

theorem State.RoutesSound.removeRoute (h : s.RoutesSound) (tag : Byte) (p : RemoveParams) :
    (s.removeRoute tag p).RoutesSound := by
  unfold State.removeRoute
  split
  · split
    · exact h.of_re rfl
    · exact h.removeFound tag _
  · exact h.removeFound tag _

theorem State.RoutesSound.flushIndex {acc : State × Nat × Nat × Nat} (h : acc.1.RoutesSound) (scope : FlushScope)
    (force : Bool) (i : RouteNo) : (State.flushIndex scope force acc i).1.RoutesSound := by
  unfold State.flushIndex
  dsimp only
  split
  · exact h
  · split_ifs
    · exact h
    · exact h
    · exact h.removeEntry i

theorem State.RoutesSound.flushRoutes (h : s.RoutesSound) (tag : Byte) (scope : FlushScope) (force : Bool) :
    (s.flushRoutes tag scope force).RoutesSound := by
  have flushed (indexes : List RouteNo) :
      (indexes.foldl (State.flushIndex scope force) (s, 0, 0, 0)).1.RoutesSound :=
    List.foldlRecOn (motive := fun acc : State × Nat × Nat × Nat => acc.1.RoutesSound) indexes _ h
      fun _ sound i _ => sound.flushIndex scope force i
  unfold State.flushRoutes
  generalize List.finRange 48 = indexes
  exact (flushed indexes).of_re rfl

theorem State.RoutesSound.setEntryState (h : s.RoutesSound) (i : RouteNo) (st : EntryState) :
    (s.setEntryState i st).RoutesSound := by
  refine h.setRoute i _ fun b hb => ?_
  obtain ⟨e, he, rfl⟩ := Option.map_eq_some_iff.1 hb
  exact ⟨e, he, rfl, rfl, rfl⟩

theorem State.RoutesSound.suspendRoute (h : s.RoutesSound) (tag : Byte) (i : RouteNo) :
    (s.suspendRoute tag i).RoutesSound := by
  unfold State.suspendRoute
  split
  · exact h.of_re rfl
  · exact (h.setEntryState i .suspended).of_re rfl

theorem State.RoutesSound.resumeRoute (h : s.RoutesSound) (tag : Byte) (i : RouteNo) :
    (s.resumeRoute tag i).RoutesSound := by
  unfold State.resumeRoute
  split
  · exact h.of_re rfl
  · split
    · exact h.of_re rfl
    · exact ((h.setEntryState i .active).releaseThrough i _).of_re rfl

@[simp] theorem State.probeRoute_re (s : State) (tag : Byte) (key : Half) (w : KeyWidth) (d : Domain) :
    (s.probeRoute tag key w d).re = s.re := by
  unfold State.probeRoute
  repeat' split
  all_goals simp

/-! ### The reads of a STATS (R171) -/

theorem State.clearHits_route (i : RouteNo) : (s.clearRead .routes).route i = (s.route i).map RouteEntry.clearHits :=
  mapVector_get _ _ i

theorem State.RoutesSound.clearRead (h : s.RoutesSound) (r : BlockRead) : (s.clearRead r).RoutesSound := by
  cases r with
  | routes =>
    refine h.of_within fun i b hb => ?_
    rw [State.clearHits_route] at hb
    obtain ⟨e, he, rfl⟩ := Option.map_eq_some_iff.1 hb
    exact ⟨e, he, rfl, rfl, rfl⟩
  | _ => exact h.of_re rfl

theorem State.RoutesSound.readBlock (h : s.RoutesSound) (r : StatsRead) : (s.readBlock r).RoutesSound := by
  have cleared : (if r.clear then s.clearRead r.next else s : State).RoutesSound := by
    split
    · exact h.clearRead r.next
    · exact h
  rcases s.readBlock_cases r with ⟨n, _, e⟩ | ⟨_, e⟩ <;> rw [e]
  · exact cleared.of_re rfl
  · exact cleared.of_re rfl

theorem State.RoutesSound.statsAtBlock (h : s.RoutesSound) (tag : Byte) : (s.statsAtBlock tag).RoutesSound := by
  unfold State.statsAtBlock
  split
  · exact h
  · exact h.readBlock _

/-! ### Requests and expiries -/

section Requests

variable {α : Type} {f : α → State → State}

theorem State.RoutesSound.takeRequest (h : s.RoutesSound) (tag code : Byte) {g : State → State}
    (keeps : ∀ t : State, t.RoutesSound → (g t).RoutesSound) : (s.takeRequest tag code g).RoutesSound := by
  unfold State.takeRequest
  dsimp only
  split_ifs
  · exact h
  · exact h.of_re (by simp)
  · exact h.of_re (by simp)
  · exact h.of_re (by simp)
  · exact keeps _ (h.of_re rfl)

theorem State.RoutesSound.request (h : s.RoutesSound) (tag code : Byte) (needs : Bool) (params : Checked α)
    (keeps : ∀ a (t : State), t.RoutesSound → (f a t).RoutesSound) : (s.request tag code needs params f).RoutesSound := by
  refine h.takeRequest tag code fun t ht => ?_
  split
  · exact ht.of_re rfl
  · split
    · exact ht.of_re rfl
    · exact ht.of_re rfl
    · exact keeps _ t ht

theorem State.RoutesSound.handTo (h : s.RoutesSound) (b : Block) (i : Instr) (both : Bool) {g : State → State}
    (keeps : ∀ t : State, t.RoutesSound → (g t).RoutesSound) : (s.handTo b i both g).RoutesSound := by
  unfold State.handTo
  split
  · exact keeps s h
  · exact h.of_re rfl

theorem State.RoutesSound.takeHanded (h : s.RoutesSound) (i : Instr) {g : Block → State → State}
    (keeps : ∀ b (t : State), t.RoutesSound → (g b t).RoutesSound) : (s.takeHanded i g).RoutesSound := by
  unfold State.takeHanded
  split
  · exact h
  · exact keeps _ _ (h.of_re rfl)

/-- A request keeps what its carrying out keeps, whichever of its two happenings the command stands for (R153). -/
theorem State.RoutesSound.blockRequest {stage : Stage} {i : Instr} {tag code : Byte} {params : Checked α}
    {owner : α → Block} (h : s.RoutesSound) (keeps : ∀ a (t : State), t.RoutesSound → (f a t).RoutesSound) :
    (s.blockRequest stage i tag code params owner f).RoutesSound := by
  cases stage with
  | whole => exact h.request tag code true params fun a t ht => ht.handTo (owner a) i true (keeps a)
  | accept => exact h.request tag code true params fun a t ht => ht.handTo (owner a) i false (keeps a)
  | block =>
    cases params with
    | ok a => exact h.takeHanded i fun _ => keeps a
    | error _ => exact h

/-- A request that does not touch the table when it is carried out. -/
theorem State.RoutesSound.blockRequest_of_routes {stage : Stage} {i : Instr} {tag code : Byte} {params : Checked α}
    {owner : α → Block} (h : s.RoutesSound) (same : ∀ a t, (f a t).re.routes = t.re.routes) :
    (s.blockRequest stage i tag code params owner f).RoutesSound :=
  h.blockRequest fun a t ht => ht.of_routes (same a t)

end Requests

theorem State.RoutesSound.expire (h : s.RoutesSound) {after : Nat} {timer : State → Option Timer} {act : State → State}
    (keeps : ∀ t : State, t.RoutesSound → (act t).RoutesSound) : (s.expire after timer act).RoutesSound := by
  have passed : (s.pass after).RoutesSound := h.of_routes rfl
  rcases s.expire_cases after timer act with ⟨_, _, _, e⟩ | ⟨_, e⟩ <;> rw [e]
  · exact keeps _ passed
  · exact passed

/-- An expiry that does not touch the table when it acts. -/
theorem State.RoutesSound.expire_of_routes (h : s.RoutesSound) {after : Nat} {timer : State → Option Timer}
    {act : State → State} (same : ∀ t, (act t).re.routes = t.re.routes) : (s.expire after timer act).RoutesSound :=
  h.expire fun t ht => ht.of_routes (same t)

end Sys2Proof.Machine
end

section
/-! PROOFS. No two in-use entries match one key after any step (03_the_route_table.md, R49): command by command, the bytes of a
packet, and the part by itself. -/

namespace Sys2Proof.Machine

variable {s : State}

/-- Every state that the outcome leads to has no two entries that conflict (R49). -/
def LeadsToSound (o : Host.Outcome State Fault Refusal) : Prop := ∀ t, o = .next t → t.RoutesSound

theorem LeadsToSound.next {t : State} (h : t.RoutesSound) : LeadsToSound (.next t) := by
  intro u e
  cases e
  exact h

/-! ### Commands -/

theorem State.deviceReset_routesSound (cause : ResetCause) (straps : Straps) : (s.deviceReset cause straps).RoutesSound :=
  State.routesSound_of_empty fun i => State.reset_route i

theorem State.RoutesSound.packetLeaves (h : s.RoutesSound) (straps : Straps) : (s.packetLeaves straps).RoutesSound := by
  unfold State.packetLeaves
  split
  · exact h
  · split
    · exact State.deviceReset_routesSound .request straps
    · exact h.of_re (by simp)

theorem State.RoutesSound.cancel (h : s.RoutesSound) (tag target : Byte) (both : Bool) :
    (s.cancel tag target both).RoutesSound := by
  unfold State.cancel
  split
  · exact h.of_re rfl
  · exact h.handTo _ _ both fun t ht => ht.of_re (by simp)

/-- The command is not the arrival of a byte, which can complete the packet of another command. -/
def notByte : Instr → Bool
  | .hostByteReceived _ _ _ => false
  | _ => true

/-- Every command but HOST_BYTE_RECEIVED keeps R49: only ROUTE_INSTALL, ROUTE_REMOVE, ROUTE_FLUSH, ROUTE_STATE, the matches of
frames, a STATS with clear and a device reset change the table at all. -/
theorem State.RoutesSound.exec_of_notByte (h : s.RoutesSound) (c : Instr) (other : notByte c = true) :
    LeadsToSound (exec c s) := by
  cases c with
  | hostByteReceived => cases other
  | powerUp straps => exact .next (State.deviceReset_routesSound .power straps)
  | resetPin straps => exact .next (State.deviceReset_routesSound .pin straps)
  | packetDiscarded why =>
    refine .next ?_
    split
    · exact h
    · exact h.of_re (by simp)
  | hostGapExpiry after =>
    refine .next (h.expire_of_routes fun t => ?_)
    split <;> simp
  | packetSent straps event =>
    refine .next ?_
    cases event with
    | sent => exact h.packetLeaves straps
    | begins => exact h.of_re (by simp)
    | joins => exact h.of_re (by simp)
  | openSession tag taker =>
    refine .next ?_
    cases taker with
    | hl => exact h.request tag 0x01 false _ fun _ t ht => ht.of_re (by simp)
    | ru => dsimp only; split; exacts [h.of_re (by simp), h]
    | re => dsimp only; split; exacts [h.of_re (by simp), h]
  | closeSession tag => exact .next (h.request tag 0x02 true _ fun _ t ht => ht.of_re rfl)
  | sessionEnd taker =>
    refine .next ?_
    split
    · exact h.of_re (by simp)
    · exact h
  | cancel tag target stage =>
    refine .next ?_
    cases stage with
    | whole => exact h.request tag 0x03 true _ fun _ t ht => ht.cancel tag target true
    | accept => exact h.request tag 0x03 true _ fun _ t ht => ht.cancel tag target false
    | block => exact h.takeHanded _ fun b t ht => ht.of_re (by simp)
  | identify tag => exact .next (h.request tag 0x04 false _ fun _ t ht => ht.of_re rfl)
  | resetRequest tag => exact .next (h.request tag 0x05 false _ fun _ t ht => ht.of_re rfl)
  | unknownRequest tag code =>
    refine .next ?_
    split
    · exact h
    · exact h.takeRequest tag _ fun t ht => ht.of_re rfl
  -- The Capture Units and the Frame Pool
  | arm tag line plan stage => exact .next (h.blockRequest_of_routes fun _ t => by simp)
  | disarm tag line how stage => exact .next (h.blockRequest_of_routes fun _ t => by simp)
  | captureGet tag line stage => exact .next (h.blockRequest_of_routes fun _ t => by simp)
  | poolSet tag line quota stage => exact .next (h.blockRequest_of_routes fun _ t => rfl)
  | poolGet tag stage => exact .next (h.blockRequest_of_routes fun _ t => by simp)
  | quietTimerExpiry line after => exact .next (h.expire_of_routes fun t => by simp)
  | gapTimerExpiry line after turnWaits => exact .next (h.expire_of_routes fun t => by simp)
  | spanTimerExpiry line after turnWaits => exact .next (h.expire_of_routes fun t => by simp)
  -- The Route Engine
  | routeInstall tag route stage => exact .next (h.blockRequest fun p t ht => ht.install tag p)
  | routeRemove tag target stage => exact .next (h.blockRequest fun p t ht => ht.removeRoute tag p)
  | routeStateSuspend tag index stage => exact .next (h.blockRequest fun i t ht => ht.suspendRoute tag i)
  | routeStateResume tag index stage => exact .next (h.blockRequest fun i t ht => ht.resumeRoute tag i)
  | routeFlush tag scope force stage => exact .next (h.blockRequest fun (sc, f) t ht => ht.flushRoutes tag sc f)
  | routeProbe tag key width domain stage => exact .next (h.blockRequest_of_routes fun _ t => by simp)
  | routeRead tag index stage => exact .next (h.blockRequest_of_routes fun _ t => rfl)
  | parkResolve tag number decision target stage =>
    exact .next (h.blockRequest fun d t ht => ht.resolvePark tag number d)
  | parkSet tag timeout stage => exact .next (h.blockRequest_of_routes fun _ t => rfl)
  | parkList tag stage => exact .next (h.blockRequest_of_routes fun _ t => rfl)
  | frameTaken line => exact .next (h.takeFrame line)
  | parkTimerExpiry number after =>
    refine .next (h.expire fun t ht => ?_)
    split
    · exact ht.expireParked _
    · exact ht
  -- The Queue Manager
  | fetch tag queue max wait stage => exact .next (h.blockRequest_of_routes fun _ t => by simp)
  | release tag queue numbers stage =>
    refine .next (h.blockRequest_of_routes fun (q, ns) t => ?_)
    dsimp only
    split <;> simp
  | returnFrames tag queue numbers stage =>
    refine .next (h.blockRequest_of_routes fun (q, ns) t => ?_)
    dsimp only
    repeat' split
    all_goals simp
  | queueSet tag queue capacity notify stage => exact .next (h.blockRequest_of_routes fun _ t => by simp)
  | queueGet tag queue stage => exact .next (h.blockRequest_of_routes fun _ t => rfl)
  | waitTimerExpiry queue after =>
    refine .next (h.expire_of_routes fun t => ?_)
    split <;> simp
  -- The Line Ports
  | transmit tag line data preQuiet notify stage => exact .next (h.blockRequest_of_routes fun _ t => by simp)
  | flushTx tag line stage => exact .next (h.blockRequest_of_routes fun _ t => by simp)
  | lineSet tag line config drainLimit stage => exact .next (h.blockRequest_of_routes fun _ t => by simp)
  | lineGet tag line stage => exact .next (h.blockRequest_of_routes fun _ t => rfl)
  | preQuietExpiry line after => exact .next (h.expire_of_routes fun t => by simp)
  | drainLimitExpiry line after => exact .next (h.expire_of_routes fun t => by simp)
  | characterReceived line data parityBit stopBit => exact .next (h.of_routes (by simp))
  | candidateFramingCharacter line =>
    refine .next (h.of_routes ?_)
    split <;> simp
  | breakDetected line =>
    refine .next (h.of_routes ?_)
    split <;> simp
  | breakEnd line =>
    refine .next (h.of_routes ?_)
    split <;> simp
  | startBit line glitch =>
    refine .next (h.of_routes ?_)
    split <;> simp
  | returnToMark line =>
    refine .next (h.of_routes ?_)
    split <;> simp
  | characterSent line => exact .next (h.of_re (by simp))
  -- The Report Unit
  | ackReports tag sequence stage => exact .next (h.blockRequest_of_routes fun _ t => by simp)
  | resendReports tag stage => exact .next (h.blockRequest_of_routes fun _ t => by simp)
  | stats tag selector operand clear taker =>
    refine .next ?_
    cases taker with
    | request stage => exact h.blockRequest_of_routes fun _ t => by simp
    | read => exact h.statsAtBlock tag
  | reportRaised source =>
    refine .next (h.of_re ?_)
    split <;> simp
  | lossHanded source taker =>
    refine .next (h.of_re ?_)
    cases taker <;> simp

/-! ### Packets received byte by byte (R146, R147) -/

/-- The request of a packet is taken as its own command, up to its hand-over; anything else is not taken. -/
theorem takeDecoded_eq_exec_or_next (i : Instr) :
    (takeDecoded i s = exec (staged .accept i) s ∧ notByte i = true) ∨ takeDecoded i s = .next s := by
  unfold takeDecoded
  split
  on_goal -1 => exact .inr rfl
  all_goals exact .inl ⟨rfl, rfl⟩

theorem notByte_staged (stage : Stage) (i : Instr) : notByte (staged stage i) = notByte i := by
  unfold staged
  split <;> rfl

theorem State.RoutesSound.takePacket (h : s.RoutesSound) (tag : Byte) (payload : List Byte) :
    LeadsToSound (s.takePacket tag payload) := by
  unfold State.takePacket
  split
  · exact .next (h.takeRequest tag _ fun t ht => ht.of_re rfl)
  · exact .next (h.request tag _ _ _ fun _ t ht => ht)
  · exact .next (h.request tag _ _ _ fun _ t ht => ht)
  · next i _ =>
    rcases takeDecoded_eq_exec_or_next (s := s) i with ⟨e, other⟩ | e <;> rw [e]
    · exact h.exec_of_notByte _ (by rw [notByte_staged, other])
    · exact .next h

theorem State.RoutesSound.checkPacket (h : s.RoutesSound) (kept : List Byte) (check : Half) :
    LeadsToSound (s.checkPacket kept check) := by
  have discarded (cause : DiscardCause) : LeadsToSound (.next (s.discardPacket cause)) := .next (h.of_re (by simp))
  unfold State.checkPacket
  split
  · exact discarded .check
  · split
    · split
      · exact discarded .kind
      · exact h.takePacket _ _
    · exact discarded .kind

theorem State.RoutesSound.takeByte (h : s.RoutesSound) (value : Byte) : LeadsToSound (s.takeByte value) := by
  unfold State.takeByte
  split
  · exact .next (h.of_re (by simp))
  · exact .next (h.of_re (by simp))
  · exact .next (h.of_re rfl)
  · unfold State.checkByte
    split
    · exact .next (h.of_re rfl)
    · exact h.checkPacket _ _

/-! ### Steps -/

theorem State.RoutesSound.exec (h : s.RoutesSound) (c : Instr) : LeadsToSound (exec c s) := by
  cases byte : notByte c with
  | true => exact h.exec_of_notByte c byte
  | false =>
    cases c with
    | hostByteReceived value stopBit fromMark =>
      show LeadsToSound (execHostByteReceived value s stopBit fromMark)
      unfold execHostByteReceived
      split
      · exact .next h
      · refine State.RoutesSound.takeByte ?_ value
        exact h.of_re rfl
    | _ => cases byte

theorem State.RoutesSound.idle (h : s.RoutesSound) : LeadsToSound (idle s) := by
  unfold Machine.idle
  split
  · exact .next (h.of_re (by simp))
  · split
    · exact h.exec _
    · exact .next (h.of_routes rfl)

theorem State.RoutesSound.step (h : s.RoutesSound) : LeadsToSound (step s) := by
  unfold Machine.step
  split
  · exact h.idle
  · refine State.RoutesSound.exec ?_ _
    exact h.of_re rfl

/-- Settles O60: the table is empty after reset, only an install that R53 has tested brings a new key into it, and two entries
that match one key of a width in a domain conflict. -/
theorem stepKeepsRoutesDisjoint : Obligations.StepKeepsRoutesDisjoint := by
  unfold Obligations.StepKeepsRoutesDisjoint
  exact ⟨State.routesSound_of_empty State.reset_route, fun s t h e => h.step t e, fun s key w d i j h => h.servesAt_unique⟩

end Sys2Proof.Machine
end

section
/-! PROOFS. ACK_REPORTS and RESEND_REPORTS (09_reports_and_counters.md, R163 to R165): a request that its block takes at once,
where an acknowledgement splits the Report Queue, what RU removes and hands over, and the report of the lost-report count. -/

namespace Sys2Proof.Machine

section Requests

variable (s : State) {α : Type} {tag code : Byte} (i : Instr) (owner : α → Block) (f : α → State → State)

/-- With nothing ahead of it at its block, a request that passes its checks is carried out where it is accepted (R153). -/
theorem State.blockRequest_carriedOut (a : α) (h : ReadyAt s tag (owner a)) :
    s.blockRequest .whole i tag code (.ok a) owner f = f a (s.holding tag code) := by
  obtain ⟨ready, ahead⟩ := h
  rw [State.blockRequest_accepted s .whole i tag code a owner f ready nofun, if_pos ⟨rfl, ahead⟩]

/-- HL itself answers a request with an item out of range, whatever waits at the block (R152 step 4). -/
theorem State.blockRequest_badParam (position : Nat) (h : Ready s tag) :
    s.blockRequest .whole i tag code (.error (.badParam position)) owner f
      = s.replied tag code .badParam [byteOf position] := by
  obtain ⟨accepts, opened⟩ := h
  rw [← s.reply_holding tag code .badParam [byteOf position] accepts]
  exact s.request_badParam tag code true position (fun a t => t.handTo (owner a) i true (f a)) accepts fun _ => opened

end Requests

/-! ### The split of the Report Queue (R164) -/

theorem ackSplit_of_not_queued {k : Half} {q : List QueuedReport} (absent : ∀ r ∈ q, r.sequence ≠ k) :
    ackSplit k q = none := by
  induction q with
  | nil => rfl
  | cons x rest ih =>
    obtain ⟨head, tail⟩ := List.forall_mem_cons.1 absent
    simp [ackSplit, head, ih tail]

theorem ackSplit_append_cons (front back : List QueuedReport) (r : QueuedReport)
    (first : ∀ x ∈ front, x.sequence ≠ r.sequence) :
    ackSplit r.sequence (front ++ r :: back) = some (front ++ [r], back) := by
  induction front with
  | nil => simp [ackSplit]
  | cons x rest ih =>
    obtain ⟨head, tail⟩ := List.forall_mem_cons.1 first
    simp [ackSplit, head, ih tail]

/-! ### What RU does at its turn (R163 to R165) -/

/-- The packet that is a copy of a queued report (R145, R160). -/
def QueuedReport.packet (r : QueuedReport) : OutPacket := { kind := .report r.sequence, tag := 0, payload := r.payload }

section ReportUnit

variable (s : State) (tag : Byte)

theorem State.handReport_eq (r : QueuedReport) : s.handReport r = s.handToHL r.packet := rfl

/-- Reports handed over one by one are handed over in their order, and nothing else changes. -/
theorem State.foldl_handReport (q : List QueuedReport) :
    q.foldl State.handReport s
      = { s with hl := { s.hl with incoming := s.hl.incoming ++ q.map QueuedReport.packet } } := by
  induction q generalizing s with
  | nil => simp
  | cons r rest ih => simp [ih, State.handReport_eq, State.handToHL]

theorem State.reportLost_of_none (h : s.ru.lost = 0) : s.reportLost = s := if_pos h

theorem State.reportLost_of_some (h : s.ru.lost ≠ 0) :
    s.reportLost = { s.queueReport (.reportsLost s.ru.lost) with
      ru := { (s.queueReport (.reportsLost s.ru.lost)).ru with lost := 0 } } := if_neg h

/-- Where the lost-report count is not 0, the report of it goes to HL behind the reply (R163, R164). -/
theorem State.answer_reportLost_of_some (code : Byte) (status : Status) (results : List Byte) (h : s.ru.lost ≠ 0) :
    let report : QueuedReport := ⟨s.ru.nextSeq, .reportsLost s.ru.lost⟩
    (s.answer tag code status results).reportLost = { s with
      ru := { s.ru with queue := s.ru.queue ++ [report], lost := 0, nextSeq := nextNumber s.ru.nextSeq }
      hl := { s.hl with incoming := s.hl.incoming ++ [replyPacket tag code status results, report.packet] } } := by
  refine (State.reportLost_of_some (s.answer tag code status results) h).trans ?_
  simp [State.queueReport, State.handReport_eq, State.answer, State.handToHL]

/-- RU has removed reports from the Report Queue: those left, with a LOSS report ended where one was among them, and no copy
of a removed one that HL has yet to take or to begin (R164, R168). -/
def State.acked (removed left : List QueuedReport) : State :=
  ({ s with ru := { s.ru with
      queue := left, lossPending := s.ru.lossPending && !removed.any QueuedReport.isLoss } } : State).dropCopies
    (fun p => p.copies removed)

theorem State.ack_of_not_queued {k : Half} (absent : ∀ r ∈ s.ru.queue, r.sequence ≠ k) :
    s.ack tag k = s.answer tag 0x40 .unknownSequence [] := by
  rw [State.ack, ackSplit_of_not_queued absent]

theorem State.ack_of_queued {front back : List QueuedReport} {r : QueuedReport}
    (queued : s.ru.queue = front ++ r :: back) (first : ∀ x ∈ front, x.sequence ≠ r.sequence) :
    s.ack tag r.sequence = ((s.acked (front ++ [r]) back).answer tag 0x40 .ok
      ([byteOf (front.length + 1), byteOf back.length] ++ le16 (sequenceOf back.head?))).reportLost := by
  rw [State.ack, queued, ackSplit_append_cons front back r first]
  simp [State.acked]

theorem State.resend_eq :
    s.resend tag = ({ s with hl := { s.hl with
        incoming := s.hl.incoming ++ s.ru.queue.map QueuedReport.packet } } : State).answer tag 0x41 .ok
      (byteOf s.ru.queue.length :: le16 (sequenceOf s.ru.queue.head?) ++ le16 (sequenceOf s.ru.queue.getLast?)) := by
  rw [State.resend, State.foldl_handReport]

end ReportUnit

/-! ### The commands -/

section Commands

variable (s : State) (tag : Byte)

theorem exec_ackReports (k : Half) :
    exec (.ackReports tag k) s = .next (s.blockRequest .whole (.ackReports tag k) tag 0x40 (checkAck k) (fun _ => .ru)
      fun _ t => t.ack tag k) := rfl

theorem checkAck_of_ne_zero {k : Half} (h : k ≠ 0) : checkAck k = .ok () := if_pos (bne_iff_ne.2 h)

theorem exec_ackReports_zero (h : Ready s tag) :
    exec (.ackReports tag 0) s = .next (s.replied tag 0x40 .badParam [1]) := by
  rw [exec_ackReports]
  exact congrArg _ (s.blockRequest_badParam _ _ _ 1 h)

theorem exec_ackReports_of_ne_zero {k : Half} (hk : k ≠ 0) (h : ReadyAt s tag .ru) :
    exec (.ackReports tag k) s = .next ((s.holding tag 0x40).ack tag k) := by
  rw [exec_ackReports, checkAck_of_ne_zero hk, s.blockRequest_carriedOut _ _ _ () h]

theorem exec_resendReports (h : ReadyAt s tag .ru) :
    exec (.resendReports tag) s = .next ((s.holding tag 0x41).resend tag) :=
  congrArg _ (s.blockRequest_carriedOut _ _ _ () h)

end Commands

/-- Settles O49: the number named splits the Report Queue where it stands first, if it does; the removal, the reply and the
report of the lost-report count follow in this order (R164), and the copies of a RESEND_REPORTS precede its reply (R165). -/
theorem ackRemovesAndResendRepeats : Obligations.AckRemovesAndResendRepeats := by
  unfold Obligations.AckRemovesAndResendRepeats
  intro s tag
  refine ⟨exec_ackReports_zero s tag, ?unknown, ?acked, ?resent⟩
  case unknown =>
    intro k hk ready absent
    rw [exec_ackReports_of_ne_zero s tag hk ready, (s.holding tag 0x40).ack_of_not_queued tag absent, State.answer_holding]
  case acked =>
    intro front back r queued nonzero first ready
    rw [exec_ackReports_of_ne_zero s tag nonzero ready, (s.holding tag 0x40).ack_of_queued tag queued first]
    refine congrArg _ ?_
    split
    · next noneLost => exact State.reportLost_of_none _ noneLost
    · next someLost => exact State.answer_reportLost_of_some _ tag _ _ _ someLost
  case resent =>
    intro ready
    rw [exec_resendReports s tag ready, State.resend_eq]
    rfl

end Sys2Proof.Machine
end
